-- ==== Sys2Proof/Word.lean ====
section
/-! DEFINITION. The byte (00_scope.md R8). -/

namespace Sys2Proof

/-- A byte, an unsigned integer in 0..255 (00_scope.md R8): what one index of a byte space holds, whatever
`BYTE_BITS` is (log entry 1). -/
abbrev Byte := BitVec 8

end Sys2Proof
end

