-- ==== Sys2Proof/Config.lean ====
section
/-! DEFINITION. What an instance of the block fixes (00_scope.md R7), and the transport's answers,
which nothing inside the block determines (44_transaction.md R196). -/

namespace Sys2Proof

/-- The length check of a response frame (42_frame_validator.md R148; 92_eei_decisions.md D6). -/
inductive LengthPolicy where
  /-- The length byte is the frame's length less 3, exactly: the spec's choice. -/
  | exact
  /-- The weaker alternative D6 writes out: the data segment has an echo and ends before the checksum. -/
  | bounds
  deriving DecidableEq, Repr

/-- The parameters of R7, each a field with the default R7 gives (92_eei_decisions.md D19). An instance's
parameters are fixed when it is instantiated (10_state.md R29). Log entries 1, 12 and 13. -/
structure Config where
  /-- `BYTE_BITS`: the checksum wraps at 2 ^ BYTE_BITS, and so does a byte of the measurement. -/
  byteBits : Nat := 8
  /-- `START_CMD`: byte 0 of a command frame. -/
  startCmd : Byte := 0x11
  /-- `START_RSP`: informational, never checked (42_frame_validator.md R151). -/
  startRsp : Byte := 0x16
  /-- `CMD_LEN_FIELD`: byte 1 of a command frame. -/
  cmdLenField : Byte := 0x01
  /-- `CMD_FRAME_BYTES`: the bytes of TXFRAME, and TXLEN once a frame is built (10_state.md R23). -/
  cmdFrameBytes : Nat := 4
  /-- `RXBUF_SIZE`: the bytes of RXBUF, and the most that a read or an RXLOAD puts there (10_state.md R21). -/
  rxbufSize : Nat := 8
  /-- `PAYLOAD_OFFSET`: where an accepted frame's payload starts (42_frame_validator.md R146). -/
  payloadOffset : Nat := 3
  /-- `OPC_READ_MEASURE` (92_eei_decisions.md D8). -/
  opcReadMeasure : Byte := 0x01
  /-- `OPC_CALIBRATION`. UNVERIFIED: the default is general knowledge (GK3). -/
  opcCalibration : Byte := 0x03
  /-- `OPC_ABC_CHECK`. UNVERIFIED: the default is general knowledge (GK3). -/
  opcAbcCheck : Byte := 0x0F
  /-- `OPC_ABC_SET`. UNVERIFIED: the default is general knowledge (GK3). -/
  opcAbcSet : Byte := 0x10
  /-- `MEAS_BITS`: the width of MEAS (43_frame_decoder.md R171; 92_eei_decisions.md D9). -/
  measBits : Nat := 32
  /-- `CSUM_MAX_LEN`: the longest operand of CSUM (30_encoding.md R64; 92_eei_decisions.md D20). -/
  csumMaxLen : Nat := 255
  /-- `LENGTH_POLICY`. -/
  lengthPolicy : LengthPolicy := .exact
  /-- `BAUD`: a transport value that no rule reads. -/
  baud : Nat := 9600
  /-- `READ_TIMEOUT` in seconds: a transport value that no rule reads. -/
  readTimeout : Nat := 5
  deriving DecidableEq, Repr

/-- The transport's answers to `Transport.write` (44_transaction.md R193, R196). -/
inductive WriteAnswer where
  /-- All four bytes were written. -/
  | ok
  /-- A short write or an I/O failure. -/
  | fail
  deriving DecidableEq, Repr, Inhabited

/-- The transport's answers to `Transport.read` (44_transaction.md R194, R196). -/
inductive ReadAnswer where
  /-- The read timed out with no data. -/
  | timeout
  /-- The read returned these bytes, possibly none, first byte first (20_memory.md R41). -/
  | data (d : List Byte)
  deriving DecidableEq, Repr, Inhabited

/-- FREE VALUE: what the transport answers to the write that is the `n`-th question put to it, where no
answer stands in `State.writeAnswers` (44_transaction.md R196: "a free draw from the set listed").
No body: nothing can be proved of it. Log entry 6. -/
opaque Config.transportWrite : Nat → WriteAnswer

/-- FREE VALUE: what the transport answers to the read that is the `n`-th question put to it, where no
answer stands in `State.readAnswers` (44_transaction.md R196). No body. Log entry 6. -/
opaque Config.transportRead : Nat → ReadAnswer

/-- FREE VALUE: the byte that a frame unit reads at index `a` of RXBUF where that byte holds no value. No run
reaches such a read (10_state.md R21; 93_implementation_defined.md I1). No body. Log entry 8. -/
opaque Config.unwrittenByte : Nat → Byte

end Sys2Proof
end

