-- ==== Sys2Proof/Machine/Flags.lean ====
section
/-! DEFINITION. The STATUS register: its codes, its causes, its fields, and what each outcome writes
(10_state.md R20; 60_exceptions.md R220, R221). -/

namespace Sys2Proof.Machine

/-- STATUS.CODE (60_exceptions.md R220). Code 6 is reserved and never written, so it has no name here. -/
inductive StatusCode where
  | ok
  | checksumMismatch
  | malformed
  | transportError
  | illegalOp
  | unchecked
  /-- The reset value: no request has completed since reset. No operation writes it. -/
  | idle
  deriving DecidableEq, Repr

/-- STATUS.TCAUSE (60_exceptions.md R221). -/
inductive TransportCause where
  | writeFailed
  | noResponse
  | timeout
  deriving DecidableEq, Repr

/-- The errors a request can end in (60_exceptions.md R220); a transport error has its cause. -/
inductive RequestError where
  | checksumMismatch
  | malformed
  | transportError (cause : TransportCause)
  | illegalOp
  | unchecked
  deriving DecidableEq, Repr

/-- The number of a code (60_exceptions.md R220). -/
def codeBits : StatusCode → BitVec 3
  | .ok => 0
  | .checksumMismatch => 1
  | .malformed => 2
  | .transportError => 3
  | .illegalOp => 4
  | .unchecked => 5
  | .idle => 7

/-- The number of a cause; 0 is NONE (60_exceptions.md R221). -/
def causeBits : TransportCause → BitVec 2
  | .writeFailed => 1
  | .noResponse => 2
  | .timeout => 3

/-- The code an error writes. -/
def errorCode : RequestError → StatusCode
  | .checksumMismatch => .checksumMismatch
  | .malformed => .malformed
  | .transportError _ => .transportError
  | .illegalOp => .illegalOp
  | .unchecked => .unchecked

/-- The TCAUSE an error writes: its cause for a transport error, 0 otherwise (00_scope.md R10). -/
def errorCause : RequestError → BitVec 2
  | .checksumMismatch => 0
  | .malformed => 0
  | .transportError cause => causeBits cause
  | .illegalOp => 0
  | .unchecked => 0

/-- A STATUS byte: CODE in [2:0], TCAUSE in [4:3], the reserved bits [7:5] zero (10_state.md R20). -/
def statusByte (code : StatusCode) (tcause : BitVec 2) : Byte :=
  (0#3 ++ tcause) ++ codeBits code

/-- STATUS[2:0]. -/
def statusCodeField (status : Byte) : BitVec 3 :=
  status.extractLsb' 0 3

/-- STATUS[4:3]. -/
def statusCauseField (status : Byte) : BitVec 2 :=
  status.extractLsb' 3 2

/-- STATUS[7:5]. -/
def statusReservedField (status : Byte) : BitVec 3 :=
  status.extractLsb' 5 3

/-- The STATUS byte of a request that completed: CODE <- OK, TCAUSE <- 0. -/
def statusOk : Byte :=
  statusByte .ok 0

/-- The STATUS byte of a request that met an error. -/
def statusOfError (e : RequestError) : Byte :=
  statusByte (errorCode e) (errorCause e)

end Sys2Proof.Machine
end

