-- ==== Sys2Proof/Syntax.lean ====
section
/-! DEFINITION. The Command enumeration, the two formats of spec/opcode_table.json, and `Instr`, one
constructor for each row of that table. -/

namespace Sys2Proof

/-- The closed enumeration of Commands, in the source's order (30_encoding.md R63). -/
inductive Command where
  | readMeasure
  | calibration
  | abcParameterCheck
  | abcParameterSet
  deriving DecidableEq, Repr

/-- The "format" column of spec/opcode_table.json. -/
inductive Format where
  /-- CTRL8: a request of the host, a control byte and what follows it (30_encoding.md R60). -/
  | ctrl8
  /-- CMDFRAME32: a command frame, byte 0 in bits [31:24] of the table's word (30_encoding.md R66). -/
  | cmdframe32
  deriving DecidableEq, Repr

/-- The rows of spec/opcode_table.json. The operand block of CSUM and RXLOAD is its data bytes; the
count byte N is their number (30_encoding.md R60, R64). -/
inductive Instr where
  /-- CSUM (40_checksum_verifier.md R103). -/
  | csum (data : List Byte)
  /-- VERIFY (40_checksum_verifier.md R105). -/
  | verify
  /-- PACK (41_frame_encoder.md R120). -/
  | pack (cmd : Command)
  /-- RXLOAD (42_frame_validator.md R140). -/
  | rxload (data : List Byte)
  /-- VALIDATE (42_frame_validator.md R146). -/
  | validate
  /-- DECODE (43_frame_decoder.md R170). -/
  | decode
  /-- READMEAS (44_transaction.md R191). -/
  | readmeas
  /-- CMDFRAME_ReadMeasure (30_encoding.md R67; its row's rule is R120). -/
  | cmdframeReadMeasure
  /-- CMDFRAME_Calibration (30_encoding.md R67; its row's rule is R120). -/
  | cmdframeCalibration
  /-- CMDFRAME_AbcParameterCheck (30_encoding.md R67; its row's rule is R120). -/
  | cmdframeAbcParameterCheck
  /-- CMDFRAME_AbcParameterSet (30_encoding.md R67; its row's rule is R120). -/
  | cmdframeAbcParameterSet
  deriving DecidableEq, Repr

/-- The format of an instruction's row. -/
def Instr.format : Instr → Format
  | .csum _ => .ctrl8
  | .verify => .ctrl8
  | .pack _ => .ctrl8
  | .rxload _ => .ctrl8
  | .validate => .ctrl8
  | .decode => .ctrl8
  | .readmeas => .ctrl8
  | .cmdframeReadMeasure => .cmdframe32
  | .cmdframeCalibration => .cmdframe32
  | .cmdframeAbcParameterCheck => .cmdframe32
  | .cmdframeAbcParameterSet => .cmdframe32

end Sys2Proof
end

