-- ==== Sys2Proof/Machine/Frame.lean ====
section
/-! DEFINITION. The frame codec, pure functions of bytes: the checksum, the command frame, the validation
of a response frame, and the measurement. -/

namespace Sys2Proof.Machine

/-- `sum(s)`: the integer sum of all bytes of `s`, with `sum([]) = 0` (00_scope.md R9). -/
def byteSum : List Byte → Nat
  | [] => 0
  | b :: s => b.toNat + byteSum s

/-- 2 ^ BYTE_BITS, the 256 of 40_checksum_verifier.md R100 and of 20_memory.md R42. -/
def byteModulus (cfg : Config) : Nat :=
  2 ^ cfg.byteBits

/-- The checksum of a byte sequence: the negated sum, wrapped at 2 ^ BYTE_BITS (40_checksum_verifier.md R100,
where that is 256). A zero sum gives 0x00: log entry 11. -/
def checksum (cfg : Config) (s : List Byte) : Byte :=
  BitVec.ofNat 8 ((byteModulus cfg - byteSum s % byteModulus cfg) % byteModulus cfg)

/-- The accumulator of the reduction, BYTE_BITS wide, after the bytes of `s` (40_checksum_verifier.md R101). -/
def checksumFold {bits : Nat} (acc : BitVec bits) : List Byte → BitVec bits
  | [] => acc
  | b :: s => checksumFold (acc + b.setWidth bits) s

/-- The checksum as a hardware reduction: fold from 0, then complement and add one
(40_checksum_verifier.md R101). -/
def checksumReduction (cfg : Config) (s : List Byte) : Byte :=
  (~~~(checksumFold (0 : BitVec cfg.byteBits) s) + 1).setWidth 8

/-- `checksum_valid(f)`: at least one byte, and the last byte is the checksum of the bytes before it
(40_checksum_verifier.md R104). -/
def checksumValid (cfg : Config) (f : List Byte) : Bool :=
  match f.getLast? with
  | none => false
  | some c => c == checksum cfg f.dropLast

/-- The opcode byte of a Command, a parameter of the instance (30_encoding.md R63). -/
def opcodeOf (cfg : Config) : Command → Byte
  | .readMeasure => cfg.opcReadMeasure
  | .calibration => cfg.opcCalibration
  | .abcParameterCheck => cfg.opcAbcCheck
  | .abcParameterSet => cfg.opcAbcSet

/-- The bytes of a command frame before its checksum: START_CMD, the length, the opcode
(30_encoding.md R66). -/
def commandHead (cfg : Config) (cmd : Command) : List Byte :=
  [cfg.startCmd, cfg.cmdLenField, opcodeOf cfg cmd]

/-- The command frame of a Command (30_encoding.md R66; 41_frame_encoder.md R120). -/
def commandFrame (cfg : Config) (cmd : Command) : List Byte :=
  commandHead cfg cmd ++ [checksum cfg (commandHead cfg cmd)]

/-- What the frame_validator answers (42_frame_validator.md R145). -/
inductive Verdict where
  /-- Accepted, with the payload's length. -/
  | accepted (plen : Nat)
  /-- Rejected, with the first failing check's error. -/
  | rejected (e : RequestError)
  deriving DecidableEq, Repr

/-- Step 4 of R145: whether the length byte `len` of a frame of `n` bytes will do. EXACT is
42_frame_validator.md R148; BOUNDS is the alternative that 92_eei_decisions.md D6 writes out. -/
def lengthFits (policy : LengthPolicy) (len n : Nat) : Bool :=
  match policy with
  | .exact => len + 3 == n
  | .bounds => 1 ≤ len && 2 + len + 1 ≤ n

/-- `validate(f)`, its checks in the order of 42_frame_validator.md R145 and R147: empty, checksum,
shorter than 4 bytes, length byte. -/
def validateFrame (cfg : Config) (f : List Byte) : Verdict :=
  if f.length = 0 then .rejected .malformed
  else if !checksumValid cfg f then .rejected .checksumMismatch
  else
    match f with
    | _ :: len :: _ :: _ :: _ =>
      if lengthFits cfg.lengthPolicy len.toNat f.length then .accepted (len.toNat - 1)
      else .rejected .malformed
    | _ => .rejected .malformed

/-- The payload of an accepted frame, `f[PAYLOAD_OFFSET .. PAYLOAD_OFFSET + plen]` (42_frame_validator.md R145,
R146). -/
def payloadOf (cfg : Config) (f : List Byte) (plen : Nat) : List Byte :=
  (f.drop cfg.payloadOffset).take plen

/-- `256 * zext(hi) + zext(lo)`, big-endian, in the MEAS_BITS two's-complement bits of MEAS (20_memory.md R42;
43_frame_decoder.md R170, R171). -/
def measurementOf (cfg : Config) (hi lo : Byte) : Int :=
  (BitVec.ofNat cfg.measBits (byteModulus cfg * hi.toNat + lo.toNat)).toInt

/-- The bits of MEAS when it holds the measurement `m` (43_frame_decoder.md R171). -/
def measWord (cfg : Config) (m : Int) : BitVec cfg.measBits :=
  BitVec.ofInt cfg.measBits m

end Sys2Proof.Machine
end

