-- ==== Sys2Proof/WellFormed.lean ====
section
/-! DEFINITION. Which instruction terms the encoding admits, which parameter sets keep the four command
frames apart, and which fit the widths of the registers. -/

namespace Sys2Proof

/-- An operand block fits its count byte, and N <= CSUM_MAX_LEN for CSUM (30_encoding.md R64), N <= RXBUF_SIZE
for RXLOAD (30_encoding.md R65). Every other instruction is well formed. -/
def Instr.wellFormed (cfg : Config) : Instr → Bool
  | .csum data => data.length ≤ 255 && data.length ≤ cfg.csumMaxLen
  | .verify => true
  | .pack _ => true
  | .rxload data => data.length ≤ 255 && data.length ≤ cfg.rxbufSize
  | .validate => true
  | .decode => true
  | .readmeas => true
  | .cmdframeReadMeasure => true
  | .cmdframeCalibration => true
  | .cmdframeAbcParameterCheck => true
  | .cmdframeAbcParameterSet => true

/-- The four Commands have four opcode bytes, so that a command frame names one Command. -/
def Config.opcodesDistinct (cfg : Config) : Bool :=
  cfg.opcReadMeasure ≠ cfg.opcCalibration && cfg.opcReadMeasure ≠ cfg.opcAbcCheck &&
    cfg.opcReadMeasure ≠ cfg.opcAbcSet && cfg.opcCalibration ≠ cfg.opcAbcCheck &&
    cfg.opcCalibration ≠ cfg.opcAbcSet && cfg.opcAbcCheck ≠ cfg.opcAbcSet

/-- The parameters fit the widths that the spec gives the registers: a byte in one index of a byte space; the
four bytes of 30_encoding.md R66 in TXFRAME; RXCOUNT in 4 bits and PLEN, n - 4 at most, in 3 (10_state.md R22,
R26); both payload bytes inside an accepted frame (43_frame_decoder.md R173); and every 16-bit unsigned value in
MEAS (92_eei_decisions.md D9). Log entry 1. -/
def Config.sized (cfg : Config) : Bool :=
  cfg.byteBits ≤ 8 && cfg.cmdFrameBytes = 4 && cfg.rxbufSize ≤ 11 && cfg.payloadOffset ≤ 3 && 17 ≤ cfg.measBits

end Sys2Proof
end

