-- ==== Sys2Proof/Decode.lean ====
section
/-! DEFINITION. The decoder, total on any bytes, and after it the encoder, both from 30_encoding.md. -/

namespace Sys2Proof

/-- CTRL[2:0], the operation select (30_encoding.md R61). -/
def ctrlOp (ctrl : Byte) : BitVec 3 :=
  ctrl.extractLsb' 0 3

/-- CTRL[4:3], the Command select (30_encoding.md R61). -/
def ctrlCmd (ctrl : Byte) : BitVec 2 :=
  ctrl.extractLsb' 3 2

/-- CTRL[7:5], reserved (30_encoding.md R61). -/
def ctrlRsv (ctrl : Byte) : BitVec 3 :=
  ctrl.extractLsb' 5 3

/-- The Command a CMD field selects (30_encoding.md R63). -/
def commandOfField (cmd : BitVec 2) : Command :=
  match cmd.toNat with
  | 0 => .readMeasure
  | 1 => .calibration
  | 2 => .abcParameterCheck
  | _ => .abcParameterSet

/-- Why a request is illegal: the four conditions of 30_encoding.md R65, and one of the model's own. -/
inductive IllegalReason where
  /-- OP = 7. -/
  | opReserved
  /-- RSV != 0. -/
  | rsvNonzero
  /-- CMD != 0 where OP is not PACK. -/
  | cmdNonzero
  /-- RXLOAD with N > RXBUF_SIZE. -/
  | rxloadTooLong
  /-- CSUM with N > CSUM_MAX_LEN, which no count byte reaches at its default 255. DESIGN CHOICE, log entry 1. -/
  | csumTooLong
  deriving DecidableEq, Repr

/-- Why bytes are no request at all (30_encoding.md R60), so that no rule gives them a step. Log entry 5. -/
inductive BadForm where
  /-- No control byte. -/
  | empty
  /-- CSUM or RXLOAD without its count byte. -/
  | noCount
  /-- CSUM or RXLOAD with more or fewer data bytes than its count byte says. -/
  | wrongCount
  /-- Bytes after the control byte of an operation that takes no operand block. -/
  | trailing
  /-- A frame that is none of the four command frames of 30_encoding.md R67. -/
  | noCommandFrame
  deriving DecidableEq, Repr

/-- What the decoder answers. -/
inductive Decoded where
  /-- An instruction. -/
  | instr (i : Instr)
  /-- An illegal request (30_encoding.md R65). -/
  | illegal (why : IllegalReason)
  /-- No request. -/
  | noRequest (why : BadForm)
  deriving DecidableEq, Repr

/-- An operation without an operand block is CTRL alone (30_encoding.md R60). -/
def decodeAlone (i : Instr) : List Byte → Decoded
  | [] => .instr i
  | _ :: _ => .noRequest .trailing

/-- The operand block of CSUM: N, then N bytes (30_encoding.md R60, R64). -/
def decodeCsumBlock (cfg : Config) : List Byte → Decoded
  | [] => .noRequest .noCount
  | n :: data =>
    if n.toNat > cfg.csumMaxLen then .illegal .csumTooLong
    else if data.length = n.toNat then .instr (.csum data) else .noRequest .wrongCount

/-- The operand block of RXLOAD: N, then N bytes; N > RXBUF_SIZE is illegal before any data byte is
looked at (30_encoding.md R60, R65). -/
def decodeRxloadBlock (cfg : Config) : List Byte → Decoded
  | [] => .noRequest .noCount
  | n :: data =>
    if n.toNat > cfg.rxbufSize then .illegal .rxloadTooLong
    else if data.length = n.toNat then .instr (.rxload data) else .noRequest .wrongCount

/-- A request's bytes. CTRL is looked at first; an illegal CTRL leaves the rest unread
(30_encoding.md R62, R65, R73). -/
def decodeRequest (cfg : Config) : List Byte → Decoded
  | [] => .noRequest .empty
  | ctrl :: rest =>
    if ctrlRsv ctrl ≠ 0 then .illegal .rsvNonzero
    else if ctrlOp ctrl = 7 then .illegal .opReserved
    else if ctrlOp ctrl ≠ 2 ∧ ctrlCmd ctrl ≠ 0 then .illegal .cmdNonzero
    else
      match (ctrlOp ctrl).toNat with
      | 0 => decodeCsumBlock cfg rest
      | 1 => decodeAlone .verify rest
      | 2 => decodeAlone (.pack (commandOfField (ctrlCmd ctrl))) rest
      | 3 => decodeRxloadBlock cfg rest
      | 4 => decodeAlone .validate rest
      | 5 => decodeAlone .decode rest
      | _ => decodeAlone .readmeas rest

/-- A command frame: the Command whose frame it is (30_encoding.md R66, R67). Log entry 3. -/
def decodeCommandFrame (cfg : Config) (bytes : List Byte) : Decoded :=
  if bytes = Machine.commandFrame cfg .readMeasure then .instr .cmdframeReadMeasure
  else if bytes = Machine.commandFrame cfg .calibration then .instr .cmdframeCalibration
  else if bytes = Machine.commandFrame cfg .abcParameterCheck then .instr .cmdframeAbcParameterCheck
  else if bytes = Machine.commandFrame cfg .abcParameterSet then .instr .cmdframeAbcParameterSet
  else .noRequest .noCommandFrame

/-- The decoder. The format says which of the two channels the bytes came by: the same bytes 11 01 01 ED
are a command frame, and are no legal request (0x11 has OP = 1 and CMD = 2). -/
def decodeBytes (cfg : Config) (fmt : Format) (bytes : List Byte) : Decoded :=
  match fmt with
  | .ctrl8 => decodeRequest cfg bytes
  | .cmdframe32 => decodeCommandFrame cfg bytes

/-! The encoder. -/

/-- The CMD field of a Command (30_encoding.md R63). -/
def commandField : Command → BitVec 2
  | .readMeasure => 0
  | .calibration => 1
  | .abcParameterCheck => 2
  | .abcParameterSet => 3

/-- A control byte with RSV = 0 (30_encoding.md R61). -/
def ctrlByte (op : BitVec 3) (cmd : BitVec 2) : Byte :=
  (0#3 ++ cmd) ++ op

/-- The bytes of an instruction (30_encoding.md R60, R62, R66, R72). -/
def encode (cfg : Config) : Instr → List Byte
  | .csum data => ctrlByte 0 0 :: BitVec.ofNat 8 data.length :: data
  | .verify => [ctrlByte 1 0]
  | .pack cmd => [ctrlByte 2 (commandField cmd)]
  | .rxload data => ctrlByte 3 0 :: BitVec.ofNat 8 data.length :: data
  | .validate => [ctrlByte 4 0]
  | .decode => [ctrlByte 5 0]
  | .readmeas => [ctrlByte 6 0]
  | .cmdframeReadMeasure => Machine.commandFrame cfg .readMeasure
  | .cmdframeCalibration => Machine.commandFrame cfg .calibration
  | .cmdframeAbcParameterCheck => Machine.commandFrame cfg .abcParameterCheck
  | .cmdframeAbcParameterSet => Machine.commandFrame cfg .abcParameterSet

/-! The words of spec/opcode_table.json. Its CMDFRAME32 rows have 32 bits, one word with the frame's
byte 0 in bits [31:24]; its CTRL8 rows have 8, the control byte. Log entry 3. -/

/-- The format of a table row of `nbits` bits. -/
def tableFormat (nbits : Nat) : Format :=
  if nbits = 32 then .cmdframe32 else .ctrl8

/-- `k` bytes of `w`, the least significant first. -/
def bytesUp : Nat → Nat → List Byte
  | 0, _ => []
  | k + 1, w => BitVec.ofNat 8 w :: bytesUp k (w / 256)

/-- How many bytes a request has, from the bytes of it that the table numbers: two and N for CSUM and
RXLOAD (30_encoding.md R60). -/
def requestLength : List Byte → Nat
  | [] => 1
  | [ctrl] => if ctrl = 0x00 ∨ ctrl = 0x03 then 2 else 1
  | ctrl :: n :: _ => if ctrl = 0x00 ∨ ctrl = 0x03 then 2 + n.toNat else 1

/-- The bytes of a table word, every bit above `nbits` being 0, as the hardware takes them. -/
def tableBytes (nbits w : Nat) : List Byte :=
  match tableFormat nbits with
  | .cmdframe32 => (bytesUp 4 w).reverse
  | .ctrl8 =>
    let given := bytesUp (max 1 (nbits / 8)) w
    given ++ List.replicate (requestLength given - given.length) 0

/-- The instruction the decoder reads from a table word, with the default parameters. -/
def decodeTableWord (nbits w : Nat) : Option Instr :=
  match decodeBytes {} (tableFormat nbits) (tableBytes nbits w) with
  | .instr i => some i
  | .illegal _ => none
  | .noRequest _ => none

end Sys2Proof
end

