-- ==== Sys2Proof/Machine/State.lean ====
section
/-! DEFINITION. The state of one instance of the block with its two neighbours' pending moves, the reasons
a step can stop, and the state after reset. -/

namespace Sys2Proof.Machine

/-- A byte space: (index, byte) cells, indices strictly rising. An index that is not listed holds no value
(10_state.md R31). Log entries 8 and 14. -/
abbrev Memory := List Host.Cell

/-- The phase of READMEAS, the block's only sequencing state (10_state.md R24; 44_transaction.md R190). -/
inductive Phase where
  | idle
  | encode
  | write
  | read
  | validate
  | decode
  deriving DecidableEq, Repr

/-- The registers the host can read (10_state.md R28). -/
inductive HostReg where
  | status
  | rxbuf (i : Nat)
  | rxcount
  | txframe (i : Nat)
  | txlen
  | csumOut
  | payloadValid
  | plen
  | meas
  deriving DecidableEq, Repr

/-- What a host read delivers, at the register's width (10_state.md R28). -/
inductive RegValue where
  | byte (v : Byte)
  | count (v : BitVec 4)
  | length (v : BitVec 3)
  | flag (v : Bool)
  /-- MEAS, "none" included (10_state.md R27). -/
  | measurement (v : Option Int)
  deriving DecidableEq, Repr

/-- One move of the host (44_transaction.md R200), and reset (70_reset_and_hazards.md R261).
Log entries 4, 15 and 16. -/
inductive Input where
  /-- An instruction: its format, and its bytes, delimited. -/
  | issue (fmt : Format) (bytes : List Byte)
  /-- A register read. -/
  | readReg (reg : HostReg)
  /-- A reset of the block. -/
  | reset
  deriving DecidableEq, Repr

/-- A question put to the transport (44_transaction.md R196). -/
inductive Question where
  /-- `Transport.write(frame)`. -/
  | write (frame : List Byte)
  /-- `Transport.read()`. -/
  | read
  deriving DecidableEq, Repr

/-- The whole state. The registers are 10_state.md R20 to R27; `cfg` is the instance's parameter set, which
no step writes; the last four fields are the model's own (INVENTORY.md, State). -/
structure State where
  /-- STATUS (R20). -/
  status : Byte
  /-- RXBUF[0..7] (R21). -/
  rxbuf : Memory
  /-- RXCOUNT (R22). -/
  rxcount : BitVec 4
  /-- TXFRAME[0..3] (R23). -/
  txframe : Memory
  /-- TXLEN (R23). -/
  txlen : BitVec 3
  /-- The READMEAS phase (R24). -/
  phase : Phase
  /-- CSUM_OUT, a byte or no value (R25, R31). -/
  csumOut : Option Byte
  /-- PAYLOAD_VALID (R26). -/
  payloadValid : Bool
  /-- PLEN (R26). -/
  plen : BitVec 3
  /-- MEAS: none, or the integer in ppm that its MEAS_BITS two's-complement bits stand for (R27). -/
  meas : Option Int
  /-- The parameters of the instance (00_scope.md R7; R29). Log entry 1. -/
  cfg : Config
  /-- What the host does next, oldest first. Log entry 4. -/
  inputs : List Input
  /-- The transport's next answers to `Transport.write`, oldest first. Log entry 6. -/
  writeAnswers : List WriteAnswer
  /-- The transport's next answers to `Transport.read`, oldest first. Log entry 6. -/
  readAnswers : List ReadAnswer
  /-- The questions put to the transport so far, oldest first; its length counts them. Log entries 6 and 10. -/
  asked : List Question
  deriving DecidableEq, Repr

/-- Why the model stops with a fault. -/
inductive Fault where
  /-- A host read of a byte that holds no value ("a model fault", 10_state.md R31). No instruction raises it.
  Safe: the model stops and gives no number. Log entry 8. -/
  | noValueRead
  /-- A host read of an index outside RXBUF or TXFRAME: no such byte exists (20_memory.md R40).
  Safe: the model stops. Log entry 15. -/
  | noSuchByte
  deriving DecidableEq, Repr

/-- Why the model gives no step. -/
inductive Refusal where
  /-- An arm of `exec` without a meaning. Safe: the model stops. No arm raises it. -/
  | notModelled (mnemonic : String)
  /-- `step` met a host move while READMEAS is pending (70_reset_and_hazards.md R265). Safe. Log entry 9. -/
  | requestWhilePending
  /-- `step` met bytes that are no request (30_encoding.md R60). Safe. Log entry 5. -/
  | notARequest (why : BadForm)
  deriving DecidableEq, Repr

/-- The state right after reset (70_reset_and_hazards.md R260), of an instance with the default parameters
(00_scope.md R7), before the host has moved and with no answer of the transport given (DESIGN CHOICE,
log entries 1, 4, 6 and 10). -/
def State.reset : State where
  status := statusByte .idle 0
  rxbuf := []
  rxcount := 0
  txframe := []
  txlen := 0
  phase := .idle
  csumOut := none
  payloadValid := false
  plen := 0
  meas := none
  cfg := {}
  inputs := []
  writeAnswers := []
  readAnswers := []
  asked := []

/-! One named update for each field a step can write. Their laws stand in Sys2Proof/Laws/State.lean. -/

/-- `status` set to `v`. -/
def State.setStatus (s : State) (v : Byte) : State := { s with status := v }

/-- `rxbuf` set to `v`. -/
def State.setRxbuf (s : State) (v : Memory) : State := { s with rxbuf := v }

/-- `rxcount` set to `v`. -/
def State.setRxcount (s : State) (v : BitVec 4) : State := { s with rxcount := v }

/-- `txframe` set to `v`. -/
def State.setTxframe (s : State) (v : Memory) : State := { s with txframe := v }

/-- `txlen` set to `v`. -/
def State.setTxlen (s : State) (v : BitVec 3) : State := { s with txlen := v }

/-- `phase` set to `v`. -/
def State.setPhase (s : State) (v : Phase) : State := { s with phase := v }

/-- `csumOut` set to `v`. -/
def State.setCsumOut (s : State) (v : Option Byte) : State := { s with csumOut := v }

/-- `payloadValid` set to `v`. -/
def State.setPayloadValid (s : State) (v : Bool) : State := { s with payloadValid := v }

/-- `plen` set to `v`. -/
def State.setPlen (s : State) (v : BitVec 3) : State := { s with plen := v }

/-- `meas` set to `v`. -/
def State.setMeas (s : State) (v : Option Int) : State := { s with meas := v }

/-- `inputs` set to `v`. -/
def State.setInputs (s : State) (v : List Input) : State := { s with inputs := v }

/-- `writeAnswers` set to `v`. -/
def State.setWriteAnswers (s : State) (v : List WriteAnswer) : State := { s with writeAnswers := v }

/-- `readAnswers` set to `v`. -/
def State.setReadAnswers (s : State) (v : List ReadAnswer) : State := { s with readAnswers := v }

/-- `asked` set to `v`. -/
def State.setAsked (s : State) (v : List Question) : State := { s with asked := v }

end Sys2Proof.Machine
end

