-- ==== Sys2Proof/Machine/Ops.lean ====
section
/-! DEFINITION. The operations the meanings share: the byte spaces, ending a request, an error, the frame and
payload registers, the transport's two questions, and reset. -/

namespace Sys2Proof.Machine

/-! The byte spaces (20_memory.md R40, R44; 00_scope.md R10). -/

/-- The byte at index `a`, or no value. -/
def Memory.read : Memory → Nat → Option Byte
  | [], _ => none
  | (k, v) :: m, a => if k = a then some v else Memory.read m a

/-- `[a] <- b`, keeping the indices rising. A byte is never "no value", so no write takes a cell away. -/
def Memory.write : Memory → Nat → Byte → Memory
  | [], a, b => [(a, b)]
  | (k, v) :: m, a, b =>
    if a < k then (a, b) :: (k, v) :: m
    else if a = k then (a, b) :: m
    else (k, v) :: Memory.write m a b

/-- `MemWrite(a, |s|, s)` (00_scope.md R10): the bytes of `s` at `a` and up, every other index untouched. -/
def Memory.writeBytes (m : Memory) (a : Nat) : List Byte → Memory
  | [] => m
  | b :: s => Memory.writeBytes (Memory.write m a b) (a + 1) s

/-- The `n` bytes from `a` up, where every one of the `n` bytes holds a value. -/
def Memory.readBytes (m : Memory) (a : Nat) : Nat → Option (List Byte)
  | 0 => some []
  | n + 1 =>
    match Memory.read m a, Memory.readBytes m (a + 1) n with
    | some b, some s => some (b :: s)
    | _, _ => none

/-- What a frame unit reads at index `a` of RXBUF: the byte there. Where it holds no value, which is so in no
state that a run reaches (10_state.md R21), a free value. Log entry 8. -/
def Memory.unitRead (m : Memory) (a : Nat) : Byte :=
  match Memory.read m a with
  | some b => b
  | none => Config.unwrittenByte a

/-- `MemRead(0, n)` by a frame unit (00_scope.md R10). -/
def Memory.unitReadBytes (m : Memory) (n : Nat) : List Byte :=
  (List.range n).map (Memory.unitRead m)

/-- The cells' indices rise strictly, from `lo` up, and all lie below `size`. -/
def Memory.risesFrom (size : Nat) : Nat → Memory → Bool
  | _, [] => true
  | lo, (k, _) :: m => lo ≤ k && k < size && Memory.risesFrom size (k + 1) m

/-- The canonical form of a space of `size` bytes. -/
def Memory.wf (size : Nat) (m : Memory) : Bool :=
  Memory.risesFrom size 0 m

/-! How a request ends (10_state.md R20; 00_scope.md R10, R11). -/

/-- `STATUS.CODE <- OK; STATUS.TCAUSE <- 0`. -/
def complete (s : State) : State :=
  s.setStatus statusOk

/-- `raise E(info)`: what this block has in place of taking an exception. STATUS takes the code, and the cause
of a transport error; nothing is saved and nothing else changes (00_scope.md R10; 60_exceptions.md R228).
The per-code writes are the operation's own. There is no return from an error (60_exceptions.md R229). -/
def raise (e : RequestError) (s : State) : State :=
  s.setStatus (statusOfError e)

/-! Writes that several operations share. -/

/-- `PAYLOAD_VALID <- 0; PLEN <- 0`. -/
def clearPayload (s : State) : State :=
  (s.setPayloadValid false).setPlen 0

/-- `PAYLOAD_VALID <- 1; PLEN <- plen`. -/
def acceptPayload (plen : Nat) (s : State) : State :=
  (s.setPayloadValid true).setPlen (BitVec.ofNat 3 plen)

/-- `MemWrite(0, |d|, d); RXCOUNT <- |d|`, the bytes of one read (20_memory.md R54). -/
def loadBytes (d : List Byte) (s : State) : State :=
  (s.setRxbuf (Memory.writeBytes s.rxbuf 0 d)).setRxcount (BitVec.ofNat 4 d.length)

/-- `TXFRAME <- frame; TXLEN <- CMD_FRAME_BYTES` (41_frame_encoder.md R120; 44_transaction.md R191). -/
def putFrame (frame : List Byte) (s : State) : State :=
  (s.setTxframe (Memory.writeBytes s.txframe 0 frame)).setTxlen (BitVec.ofNat 3 s.cfg.cmdFrameBytes)

/-! The transport (44_transaction.md R196). An answer is the oldest one that stands in the State; where none
stands, it is a free draw. `n` counts the questions already put. Log entries 6 and 7. -/

/-- The answer to a write. -/
def writeAnswerFrom (answers : List WriteAnswer) (n : Nat) : WriteAnswer :=
  match answers with
  | a :: _ => a
  | [] => Config.transportWrite n

/-- An answer of the set R196 lists: a read delivers at most what the receive buffer holds, 0 <= |s| <=
RXBUF_SIZE. An answer of the set is left as it is. -/
def fitAnswer (size : Nat) : ReadAnswer → ReadAnswer
  | .timeout => .timeout
  | .data d => .data (d.take size)

/-- The answer to a read into a buffer of `size` bytes. -/
def readAnswerFrom (size : Nat) (answers : List ReadAnswer) (n : Nat) : ReadAnswer :=
  match answers with
  | a :: _ => fitAnswer size a
  | [] => fitAnswer size (Config.transportRead n)

/-- What `Transport.write` answers in this state. -/
def writeAnswer (s : State) : WriteAnswer :=
  writeAnswerFrom s.writeAnswers s.asked.length

/-- What `Transport.read` answers in this state. -/
def readAnswer (s : State) : ReadAnswer :=
  readAnswerFrom s.cfg.rxbufSize s.readAnswers s.asked.length

/-- `Transport.write(frame)` has been asked, and its answer is used up. -/
def askWrite (frame : List Byte) (s : State) : State :=
  (s.setWriteAnswers s.writeAnswers.tail).setAsked (s.asked ++ [.write frame])

/-- `Transport.read()` has been asked, and its answer is used up. -/
def askRead (s : State) : State :=
  (s.setReadAnswers s.readAnswers.tail).setAsked (s.asked ++ [.read])

/-! Reset. -/

/-- A reset of the block: every register and the phase at the value of 70_reset_and_hazards.md R260. The
parameters, the host's moves and the transport are outside the block (R261) and stay. Log entry 16. -/
def resetBlock (s : State) : State :=
  { State.reset with
    cfg := s.cfg
    inputs := s.inputs
    writeAnswers := s.writeAnswers
    readAnswers := s.readAnswers
    asked := s.asked }

end Sys2Proof.Machine
end

