-- ==== Sys2Proof/Machine/Operands.lean ====
section
/-! DEFINITION. What the operations read: the frame in the receive buffer, and the two payload bytes. -/

namespace Sys2Proof.Machine

/-- `MemRead(0, RXCOUNT)`, the current exchange's bytes and no stale one (10_state.md R22;
70_reset_and_hazards.md R263). -/
def frameInBuffer (s : State) : List Byte :=
  Memory.unitReadBytes s.rxbuf s.rxcount.toNat

/-- RXBUF[PAYLOAD_OFFSET], the measurement's high byte (43_frame_decoder.md R170). At a PAYLOAD_OFFSET that puts a
payload byte at RXCOUNT or above, which no parameters with `Config.sized` do, the byte of RXBUF that the rule names
is read all the same. DESIGN CHOICE, log entry 19. -/
def payloadHigh (s : State) : Byte :=
  Memory.unitRead s.rxbuf s.cfg.payloadOffset

/-- RXBUF[PAYLOAD_OFFSET + 1], the measurement's low byte (43_frame_decoder.md R170). Log entry 19, as for the
high byte. -/
def payloadLow (s : State) : Byte :=
  Memory.unitRead s.rxbuf (s.cfg.payloadOffset + 1)

end Sys2Proof.Machine
end

