-- ==== Sys2Proof/Machine/Checksum.lean ====
section
/-! DEFINITION. The checksum_verifier: CSUM and VERIFY. -/

namespace Sys2Proof.Machine

/-- CSUM (40_checksum_verifier.md R103): no failure mode. -/
def execCsum (data : List Byte) (s : State) : Host.Outcome State Fault Refusal :=
  .next (complete (s.setCsumOut (some (checksum s.cfg data))))

/-- VERIFY of the frame `f` (40_checksum_verifier.md R105). -/
def verifyBytes (f : List Byte) (s : State) : State :=
  if f.length = 0 then raise .malformed s
  else if checksumValid s.cfg f then complete s
  else raise .checksumMismatch s

/-- VERIFY (40_checksum_verifier.md R105). -/
def execVerify (s : State) : Host.Outcome State Fault Refusal :=
  .next (verifyBytes (frameInBuffer s) s)

end Sys2Proof.Machine
end

