-- ==== Sys2Proof/Machine/Decoder.lean ====
section
/-! DEFINITION. The frame_decoder: DECODE. -/

namespace Sys2Proof.Machine

/-- The frame_decoder on an accepted frame whose first two payload bytes are `hi` and `lo`: what DECODE and the
DECODE phase of READMEAS share (43_frame_decoder.md R170; 44_transaction.md R191). -/
def decodePayload (hi lo : Byte) (s : State) : State :=
  if s.plen.toNat < 2 then raise .malformed s
  else complete (s.setMeas (some (measurementOf s.cfg hi lo)))

/-- DECODE of the payload bytes `hi` and `lo` (43_frame_decoder.md R170). An error leaves MEAS none, and UNCHECKED
comes before MALFORMED (60_exceptions.md R227). -/
def decodeChecked (hi lo : Byte) (s : State) : State :=
  if !s.payloadValid then raise .unchecked (s.setMeas none)
  else decodePayload hi lo (s.setMeas none)

/-- DECODE (43_frame_decoder.md R170). -/
def execDecode (s : State) : Host.Outcome State Fault Refusal :=
  .next (decodeChecked (payloadHigh s) (payloadLow s) s)

end Sys2Proof.Machine
end

