-- ==== Sys2Proof/Machine/Encoder.lean ====
section
/-! DEFINITION. The frame_encoder: PACK, and the four command frames of the opcode table. -/

namespace Sys2Proof.Machine

/-- The frame_encoder's operation for one Command (41_frame_encoder.md R120). -/
def packCommand (cmd : Command) (s : State) : State :=
  complete (putFrame (commandFrame s.cfg cmd) s)

/-- PACK (41_frame_encoder.md R120): no failure mode. -/
def execPack (cmd : Command) (s : State) : Host.Outcome State Fault Refusal :=
  .next (packCommand cmd s)

/-- CMDFRAME_ReadMeasure: its row's rule is 41_frame_encoder.md R120, the frame of ReadMeasure
(30_encoding.md R67). DEDUCED, log entry 2. -/
def execCmdframeReadMeasure (s : State) : Host.Outcome State Fault Refusal :=
  .next (packCommand .readMeasure s)

/-- CMDFRAME_Calibration: R120 for Calibration (30_encoding.md R67). DEDUCED, log entry 2. -/
def execCmdframeCalibration (s : State) : Host.Outcome State Fault Refusal :=
  .next (packCommand .calibration s)

/-- CMDFRAME_AbcParameterCheck: R120 for AbcParameterCheck (30_encoding.md R67). DEDUCED, log entry 2. -/
def execCmdframeAbcParameterCheck (s : State) : Host.Outcome State Fault Refusal :=
  .next (packCommand .abcParameterCheck s)

/-- CMDFRAME_AbcParameterSet: R120 for AbcParameterSet (30_encoding.md R67). DEDUCED, log entry 2. -/
def execCmdframeAbcParameterSet (s : State) : Host.Outcome State Fault Refusal :=
  .next (packCommand .abcParameterSet s)

end Sys2Proof.Machine
end

