-- ==== Sys2Proof/Machine/Receive.lean ====
section
/-! DEFINITION. The receive path and the frame_validator: RXLOAD and VALIDATE. -/

namespace Sys2Proof.Machine

/-- RXLOAD of bytes that fit (42_frame_validator.md R140). MEAS is not changed. -/
def loadReceived (data : List Byte) (s : State) : State :=
  complete (clearPayload (loadBytes data s))

/-- RXLOAD (42_frame_validator.md R140); more than RXBUF_SIZE bytes are an illegal request (30_encoding.md R65). -/
def execRxload (data : List Byte) (s : State) : Host.Outcome State Fault Refusal :=
  if data.length > s.cfg.rxbufSize then .next (raise .illegalOp s)
  else .next (loadReceived data s)

/-- VALIDATE of the frame `f` (42_frame_validator.md R146). -/
def validateBytes (f : List Byte) (s : State) : State :=
  match validateFrame s.cfg f with
  | .accepted plen => complete (acceptPayload plen s)
  | .rejected e => raise e (clearPayload s)

/-- VALIDATE (42_frame_validator.md R146). -/
def execValidate (s : State) : Host.Outcome State Fault Refusal :=
  .next (validateBytes (frameInBuffer s) s)

end Sys2Proof.Machine
end

