-- ==== Sys2Proof/Machine/Transaction.lean ====
section
/-! DEFINITION. The transaction sequencer: READMEAS, phase by phase (44_transaction.md R190 to R195). The whole
exchange is one step (10_state.md R24); its intermediate phases are written and no one sees them.
DESIGN CHOICE, log entry 9. -/

namespace Sys2Proof.Machine

/-- The start of the exchange: `MEAS <- none; PAYLOAD_VALID <- 0; PLEN <- 0` (44_transaction.md R191). -/
def beginExchange (s : State) : State :=
  clearPayload (s.setMeas none)

/-- The end of the exchange: the phase returns to IDLE (44_transaction.md R190). -/
def endExchange (s : State) : State :=
  s.setPhase .idle

/-- A transport failure: `RXCOUNT <- 0`, RXBUF as it was (44_transaction.md R191). -/
def transportFailure (cause : TransportCause) (s : State) : State :=
  endExchange (raise (.transportError cause) (s.setRxcount 0))

/-- DECODE: the frame_decoder, with its test of the register PLEN and its two bytes of RXBUF (44_transaction.md
R191, R195). A MALFORMED here leaves PAYLOAD_VALID = 1. For parameters without `Config.sized` it ends as the request
DECODE does on the same registers. DESIGN CHOICE, log entry 19. -/
def decodePhase (s : State) : State :=
  endExchange (decodePayload (payloadHigh s) (payloadLow s) (s.setPhase .decode))

/-- VALIDATE: the frame_validator on `MemRead(0, RXCOUNT)`, the bytes of this read only (44_transaction.md R191,
R195). -/
def validatePhase (s : State) : State :=
  match validateFrame s.cfg (frameInBuffer s) with
  | .accepted plen => decodePhase (acceptPayload plen (s.setPhase .validate))
  | .rejected e => endExchange (raise e (s.setPhase .validate))

/-- READ: one read, whose answer is a time-out, no bytes, or 1 to RXBUF_SIZE bytes (44_transaction.md R194). -/
def readPhase (s : State) : State :=
  let asking := s.setPhase .read
  match readAnswer asking with
  | .timeout => transportFailure .timeout (askRead asking)
  | .data [] => transportFailure .noResponse (askRead asking)
  | .data (b :: rest) => validatePhase (loadBytes (b :: rest) (askRead asking))

/-- WRITE: the frame is offered to the transport once, whole (44_transaction.md R193, R198). -/
def writePhase (frame : List Byte) (s : State) : State :=
  let asking := s.setPhase .write
  match writeAnswer asking with
  | .fail => transportFailure .writeFailed (askWrite frame asking)
  | .ok => readPhase (askWrite frame asking)

/-- ENCODE: the ReadMeasure frame, as PACK builds it (44_transaction.md R192). -/
def encodePhase (frame : List Byte) (s : State) : State :=
  putFrame frame (s.setPhase .encode)

/-- The exchange, each phase after the one before it (44_transaction.md R190). -/
def exchange (s : State) : State :=
  let frame := commandFrame s.cfg .readMeasure
  writePhase frame (encodePhase frame (beginExchange s))

/-- READMEAS (44_transaction.md R191). Every exchange ends (R197, log entry 7). -/
def execReadmeas (s : State) : Host.Outcome State Fault Refusal :=
  .next (exchange s)

end Sys2Proof.Machine
end

