-- ==== Sys2Proof/Machine/Dispatch.lean ====
section
/-! DEFINITION. One arm for each constructor of Instr. -/

namespace Sys2Proof.Machine

def exec (i : Instr) (s : State) : Host.Outcome State Fault Refusal :=
  match i with
  | .csum data => Sys2Proof.Machine.execCsum data s
  | .verify => Sys2Proof.Machine.execVerify s
  | .pack cmd => Sys2Proof.Machine.execPack cmd s
  | .rxload data => Sys2Proof.Machine.execRxload data s
  | .validate => Sys2Proof.Machine.execValidate s
  | .decode => Sys2Proof.Machine.execDecode s
  | .readmeas => Sys2Proof.Machine.execReadmeas s
  | .cmdframeReadMeasure => Sys2Proof.Machine.execCmdframeReadMeasure s
  | .cmdframeCalibration => Sys2Proof.Machine.execCmdframeCalibration s
  | .cmdframeAbcParameterCheck => Sys2Proof.Machine.execCmdframeAbcParameterCheck s
  | .cmdframeAbcParameterSet => Sys2Proof.Machine.execCmdframeAbcParameterSet s

end Sys2Proof.Machine
end

