-- ==== Sys2Proof/Machine/HostPort.lean ====
section
/-! DEFINITION. The host's side of the request interface: register reads, and what an illegal request does. -/

namespace Sys2Proof.Machine

/-- A register that holds a value or none; a host read of "no value" is a fault (10_state.md R31). -/
def deliverByte : Option Byte → Except Fault RegValue
  | some b => .ok (.byte b)
  | none => .error .noValueRead

/-- A byte of a space of `size` bytes (20_memory.md R40). -/
def deliverFrom (m : Memory) (size i : Nat) : Except Fault RegValue :=
  if i < size then deliverByte (Memory.read m i) else .error .noSuchByte

/-- A host read of a register: every register is readable, and no read has a side effect (10_state.md R28;
20_memory.md R45). Log entry 15. -/
def hostRead (reg : HostReg) (s : State) : Except Fault RegValue :=
  match reg with
  | .status => .ok (.byte s.status)
  | .rxbuf i => deliverFrom s.rxbuf s.cfg.rxbufSize i
  | .rxcount => .ok (.count s.rxcount)
  | .txframe i => deliverFrom s.txframe s.cfg.cmdFrameBytes i
  | .txlen => .ok (.length s.txlen)
  | .csumOut => deliverByte s.csumOut
  | .payloadValid => .ok (.flag s.payloadValid)
  | .plen => .ok (.length s.plen)
  | .meas => .ok (.measurement s.meas)

/-- An illegal request: ILLEGAL_OP and no other change, whichever condition made it illegal
(30_encoding.md R65). -/
def illegalRequest (_why : IllegalReason) (s : State) : Host.Outcome State Fault Refusal :=
  .next (raise .illegalOp s)

/-- A host read as a move: it delivers `hostRead` and changes nothing (20_memory.md R45). -/
def hostReadMove (reg : HostReg) (s : State) : Host.Outcome State Fault Refusal :=
  match hostRead reg s with
  | .ok _ => .next s
  | .error f => .fault f

/-- Whether the block can take a request: the phase is IDLE (44_transaction.md R200, R202). -/
def readyForHost (s : State) : Bool :=
  s.phase = .idle

/-- What the source's `read_measurement` returns (44_transaction.md R201). -/
inductive SessionResult where
  | ppm (m : Int)
  | transportError
  /-- "wrong crc". -/
  | protocolError
  | malformed
  deriving DecidableEq, Repr

/-- How the host reads the registers after READMEAS (44_transaction.md R201); `none` for a code that READMEAS
does not leave, and for OK without a measurement. -/
def sessionResult (s : State) : Option SessionResult :=
  match (statusCodeField s.status).toNat with
  | 0 => s.meas.map .ppm
  | 1 => some .protocolError
  | 2 => some .malformed
  | 3 => some .transportError
  | _ => none

end Sys2Proof.Machine
end

