-- ==== Sys2Proof/Machine/Step.lean ====
section
/-! DEFINITION. One step: the host's next move, or nothing. -/

namespace Sys2Proof.Machine

/-- One step. With no move of the host the block holds its state (60_exceptions.md R236; 44_transaction.md
R202). A reset is taken at any time (70_reset_and_hazards.md R261). Any other move needs the phase IDLE (R265):
an instruction is decoded and runs, an illegal request writes ILLEGAL_OP, a register read changes nothing. -/
def step (s : State) : Host.Outcome State Fault Refusal :=
  match s.inputs with
  | [] => .next s
  | .reset :: rest => .next (resetBlock (s.setInputs rest))
  | .readReg reg :: rest =>
    if readyForHost s then hostReadMove reg (s.setInputs rest) else .refused .requestWhilePending
  | .issue fmt bytes :: rest =>
    if readyForHost s then
      match decodeBytes s.cfg fmt bytes with
      | .instr i => exec i (s.setInputs rest)
      | .illegal why => illegalRequest why (s.setInputs rest)
      | .noRequest why => .refused (.notARequest why)
    else .refused .requestWhilePending

/-- `s` with a table word as the host's very next move; the move needs the phase IDLE (R265), which it is at
every request boundary (10_state.md R24). Log entries 3 and 4. -/
def State.withFetchWord (s : State) (nbits w : Nat) : State :=
  (s.setInputs (.issue (tableFormat nbits) (tableBytes nbits w) :: s.inputs)).setPhase .idle

end Sys2Proof.Machine
end

