-- ==== Sys2Proof/Safety.lean ====
section
/-! DEFINITION. What the statements are made of: a request that completes, a sequence of instructions, the
invariant of the block, and two states that differ in stale bytes only. -/

namespace Sys2Proof.Machine

/-- The outcome is a next state: no fault, no refusal. -/
def Completes (o : Host.Outcome State Fault Refusal) : Prop :=
  ∃ t, o = .next t

/-- Instructions one after another, each on the state the one before it left (20_memory.md R48). -/
def execAll : List Instr → State → Host.Outcome State Fault Refusal
  | [], s => .next s
  | i :: rest, s =>
    match exec i s with
    | .next t => execAll rest t
    | .fault f => .fault f
    | .refused r => .refused r

/-- The invariant of the block at a request boundary. -/
structure State.Inv (s : State) : Prop where
  /-- The parameters fit the registers. -/
  cfg_sized : s.cfg.sized = true
  /-- STATUS[7:5] are 0 (10_state.md R20). -/
  status_reserved : statusReservedField s.status = 0
  /-- Code 6 is never written (10_state.md R20). -/
  status_code : statusCodeField s.status ≠ 6
  /-- TCAUSE is a cause exactly when CODE is TRANSPORT_ERROR (10_state.md R20; 60_exceptions.md R221). -/
  status_cause : statusCauseField s.status ≠ 0 ↔ statusCodeField s.status = 3
  /-- The phase is IDLE at every request boundary (10_state.md R24). -/
  phase_idle : s.phase = .idle
  /-- RXBUF is in canonical form. -/
  rxbuf_wf : Memory.wf s.cfg.rxbufSize s.rxbuf = true
  /-- 0 <= RXCOUNT <= RXBUF_SIZE (10_state.md R22). -/
  rxcount_le : s.rxcount.toNat ≤ s.cfg.rxbufSize
  /-- Every byte below RXCOUNT holds a value (10_state.md R22). -/
  frame_valued : ∀ a, a < s.rxcount.toNat → ∃ b, Memory.read s.rxbuf a = some b
  /-- TXFRAME is in canonical form. -/
  txframe_wf : Memory.wf s.cfg.cmdFrameBytes s.txframe = true
  /-- TXLEN is 0 with no frame, or 4 with a frame PACK builds (10_state.md R23). -/
  txframe_built : (s.txlen = 0 ∧ s.txframe = []) ∨ (s.txlen = 4 ∧ ∃ cmd,
    Memory.readBytes s.txframe 0 4 = some (commandFrame s.cfg cmd))
  /-- PAYLOAD_VALID = 1 means that the frame_validator accepts RXBUF[0 .. RXCOUNT] with a payload of PLEN
  bytes (10_state.md R26). -/
  payload_accepted : s.payloadValid = true →
    validateFrame s.cfg (frameInBuffer s) = .accepted s.plen.toNat
  /-- PLEN is 0 whenever PAYLOAD_VALID = 0 (10_state.md R26). -/
  payload_cleared : s.payloadValid = false → s.plen = 0
  /-- No measurement is negative or above 65535 (43_frame_decoder.md R171). -/
  meas_range : ∀ m, s.meas = some m → 0 ≤ m ∧ m ≤ 65535

/-- `t` is `s` but for RXBUF bytes at indices RXCOUNT and up (10_state.md R22). -/
def SameButStale (s t : State) : Prop :=
  t = s.setRxbuf t.rxbuf ∧ ∀ a, a < s.rxcount.toNat → Memory.read t.rxbuf a = Memory.read s.rxbuf a

end Sys2Proof.Machine
end

