-- ==== Sys2Proof/Certificates/Slice0/Obligations.lean ====
section
/-! DEFINITION. The statements for the provers. Each docstring names the rule of spec/ it formalises, or says
that it is the model's own and names the log entry. In a STATUS byte CODE is [2:0] and TCAUSE [4:3], so 0x00 is
OK, 0x01 CHECKSUM_MISMATCH, 0x02 MALFORMED, 0x04 ILLEGAL_OP, 0x05 UNCHECKED, and TRANSPORT_ERROR is 0x0B with
WRITE_FAILED, 0x13 with NO_RESPONSE, 0x1B with TIMEOUT (10_state.md R20; 60_exceptions.md R220, R221).

The parameters of 00_scope.md R7 are fields of Config, and 92_eei_decisions.md D19 asks that claims name theirs: a
statement with the literal 256 of the rules has BYTE_BITS = 8 as its premise, one with the four bytes of a command
frame has CMD_FRAME_BYTES = 4, and one about counts or lengths that the registers must hold has Config.sized (log
entry 1). The defaults of R7 meet all of them. -/

open Sys2Proof Sys2Proof.Machine

/-! Encoding. -/

/-- Every well-formed instruction, with every operand the encoding admits, decodes from its own bytes
(30_encoding.md R60 to R66), under any parameters that give the four Commands four opcodes. -/
def Obligations.DecodeInvertsEncode : Prop :=
  ∀ (cfg : Config) (i : Instr), cfg.opcodesDistinct = true → i.wellFormed cfg = true →
    decodeBytes cfg i.format (encode cfg i) = .instr i

/-- Bytes that decode to an instruction are that instruction's own bytes: no two encodings, and no bit that is
not looked at (30_encoding.md R60 to R66). -/
def Obligations.EncodeInvertsDecode : Prop :=
  ∀ (cfg : Config) (fmt : Format) (bytes : List Byte) (i : Instr),
    decodeBytes cfg fmt bytes = .instr i →
      i.wellFormed cfg = true ∧ i.format = fmt ∧ encode cfg i = bytes

/-- 30_encoding.md R73: each of the ten CTRL values of R62 starts a legal request, and each of the other 246
is illegal whatever follows it, which is not read. -/
def Obligations.TenControlBytesAreLegal : Prop :=
  ∀ (cfg : Config) (ctrl : Byte),
    (ctrl ∈ ([0x00, 0x01, 0x02, 0x03, 0x04, 0x05, 0x06, 0x0A, 0x12, 0x1A] : List Byte) →
      ∃ rest i, decodeRequest cfg (ctrl :: rest) = .instr i) ∧
    (ctrl ∉ ([0x00, 0x01, 0x02, 0x03, 0x04, 0x05, 0x06, 0x0A, 0x12, 0x1A] : List Byte) →
      ∃ why, ∀ rest, decodeRequest cfg (ctrl :: rest) = .illegal why)

/-- Words of the opcode table, and the serialized requests of 95_test_vectors.md, decode to the instructions
they stand for. That a table word of 32 bits goes to the frame channel, and that the words 0x00 and 0x03, which
by 30_encoding.md R60 alone are no whole request, get a count byte of 0, is the model's choice (log entry 3). -/
def Obligations.TableWordsDecode : Prop :=
  decodeTableWord 8 0x00 = some (.csum []) ∧ decodeTableWord 8 0x01 = some .verify ∧
  decodeTableWord 8 0x02 = some (.pack .readMeasure) ∧ decodeTableWord 8 0x1A = some (.pack .abcParameterSet) ∧
  decodeTableWord 8 0x03 = some (.rxload []) ∧ decodeTableWord 8 0x04 = some .validate ∧
  decodeTableWord 8 0x05 = some .decode ∧ decodeTableWord 8 0x06 = some .readmeas ∧
  decodeTableWord 32 0x110101ED = some .cmdframeReadMeasure ∧
  decodeTableWord 32 0x110110DE = some .cmdframeAbcParameterSet ∧
  decodeRequest {} [0x00, 0x02, 0xFF, 0x01] = .instr (.csum [0xFF, 0x01]) ∧
  decodeRequest {} [0x03, 0x04, 0x11, 0x01, 0x01, 0xED] = .instr (.rxload [0x11, 0x01, 0x01, 0xED])

/-- 30_encoding.md R65: a request with OP = 7, with RSV != 0, with CMD != 0 outside PACK, or an RXLOAD with
N > RXBUF_SIZE (8 by default), writes ILLEGAL_OP and TCAUSE 0, and changes no other state (the request itself is
used up). -/
def Obligations.IllegalRequestChangesOnlyStatus : Prop :=
  ∀ (s : State) (ctrl : Byte) (tail : List Byte) (rest : List Input),
    s.inputs = .issue .ctrl8 (ctrl :: tail) :: rest → s.phase = .idle →
    (ctrlOp ctrl = 7 ∨ ctrlRsv ctrl ≠ 0 ∨ (ctrlOp ctrl ≠ 2 ∧ ctrlCmd ctrl ≠ 0) ∨
      (ctrlOp ctrl = 3 ∧ ∃ n data, tail = n :: data ∧ s.cfg.rxbufSize < n.toNat)) →
    step s = .next { s with inputs := rest, status := 0x04 }

/-! Steps. -/

/-- A step runs the instruction that the host's next bytes decode to, on the state with that move used up. The
queue of the host's delimited moves in `inputs`, and the frame format beside the request format, are the model's
choices (log entries 4 and 3). -/
def Obligations.StepRunsTheDecodedInstruction : Prop :=
  ∀ (s : State) (fmt : Format) (bytes : List Byte) (rest : List Input) (i : Instr),
    s.inputs = .issue fmt bytes :: rest → s.phase = .idle → decodeBytes s.cfg fmt bytes = .instr i →
    step s = exec i { s with inputs := rest }

/-- A table word placed by `withFetchWord` is the very next instruction to run, with the default parameters
under which `decodeTableWord` reads it (log entries 3 and 4). -/
def Obligations.FetchedTableWordRuns : Prop :=
  ∀ (s : State) (nbits w : Nat) (i : Instr), s.cfg = {} → decodeTableWord nbits w = some i →
    step (s.withFetchWord nbits w) = exec i { s with phase := .idle }

/-- Between requests no state changes (44_transaction.md R202; 60_exceptions.md R236). -/
def Obligations.StepHoldsTheStateWhenIdle : Prop :=
  ∀ s : State, s.inputs = [] → step s = .next s

/-- 70_reset_and_hazards.md R265: a request while READMEAS is pending has no step; nor has a register read (the
model's choice, log entry 9). -/
def Obligations.RequestWhilePendingHasNoStep : Prop :=
  ∀ (s : State) (rest : List Input), s.phase ≠ .idle →
    ((∃ fmt bytes, s.inputs = .issue fmt bytes :: rest) ∨ (∃ reg, s.inputs = .readReg reg :: rest)) →
    step s = .refused .requestWhilePending

/-- A host read of a register changes nothing but that the move is used up (20_memory.md R45). A read of an RXBUF
byte, a TXFRAME byte or CSUM_OUT that holds no value is a fault (10_state.md R31); a read of an index outside the
two spaces is a fault too (20_memory.md R40; the model's choice, log entry 15). No other read stops. -/
def Obligations.HostReadHasNoSideEffect : Prop :=
  ∀ (s : State) (reg : HostReg) (rest : List Input), s.inputs = .readReg reg :: rest → s.phase = .idle →
    (∀ v, hostRead reg s = .ok v → step s = .next { s with inputs := rest }) ∧
    (∀ a, reg = .rxbuf a → a < s.cfg.rxbufSize → Memory.read s.rxbuf a = none → step s = .fault .noValueRead) ∧
    (∀ a, reg = .txframe a → a < s.cfg.cmdFrameBytes → Memory.read s.txframe a = none →
      step s = .fault .noValueRead) ∧
    (reg = .csumOut → s.csumOut = none → step s = .fault .noValueRead) ∧
    (∀ a, reg = .rxbuf a → s.cfg.rxbufSize ≤ a → step s = .fault .noSuchByte) ∧
    (∀ a, reg = .txframe a → s.cfg.cmdFrameBytes ≤ a → step s = .fault .noSuchByte) ∧
    ((∀ a, reg ≠ .rxbuf a) → (∀ a, reg ≠ .txframe a) → reg ≠ .csumOut →
      step s = .next { s with inputs := rest })

/-- 10_state.md R31: what a host read delivers, register by register, and that a read of a byte that holds no
value is a fault. -/
def Obligations.HostReadsEveryRegister : Prop :=
  ∀ s : State,
    hostRead .status s = .ok (.byte s.status) ∧ hostRead .rxcount s = .ok (.count s.rxcount) ∧
    hostRead .txlen s = .ok (.length s.txlen) ∧ hostRead .payloadValid s = .ok (.flag s.payloadValid) ∧
    hostRead .plen s = .ok (.length s.plen) ∧ hostRead .meas s = .ok (.measurement s.meas) ∧
    (∀ b, s.csumOut = some b → hostRead .csumOut s = .ok (.byte b)) ∧
    (s.csumOut = none → hostRead .csumOut s = .error .noValueRead) ∧
    (∀ a b, a < s.cfg.rxbufSize → Memory.read s.rxbuf a = some b → hostRead (.rxbuf a) s = .ok (.byte b)) ∧
    (∀ a, a < s.cfg.rxbufSize → Memory.read s.rxbuf a = none → hostRead (.rxbuf a) s = .error .noValueRead) ∧
    (∀ a b, a < s.cfg.cmdFrameBytes → Memory.read s.txframe a = some b → hostRead (.txframe a) s = .ok (.byte b)) ∧
    (∀ a, a < s.cfg.cmdFrameBytes → Memory.read s.txframe a = none → hostRead (.txframe a) s = .error .noValueRead)

/-! Reset. -/

/-- 70_reset_and_hazards.md R260: what every piece of the block's state holds after reset, whether it is the
reset state itself or a reset of a running block. -/
def Obligations.ResetHoldsTheSpecValues : Prop :=
  ∀ t : State, (t = State.reset ∨ ∃ s, t = resetBlock s) →
    statusCodeField t.status = 7 ∧ statusCauseField t.status = 0 ∧ statusReservedField t.status = 0 ∧
    (∀ a, Memory.read t.rxbuf a = none) ∧ t.rxcount = 0 ∧
    (∀ a, Memory.read t.txframe a = none) ∧ t.txlen = 0 ∧ t.phase = .idle ∧ t.csumOut = none ∧
    t.payloadValid = false ∧ t.plen = 0 ∧ t.meas = none

/-- A reset is taken in any phase, and abandons a pending READMEAS (70_reset_and_hazards.md R261). Every piece of
the block's state is then at its value of R260; the parameters, the host's further moves and the transport are as
they were (the model's choice, log entry 16). -/
def Obligations.ResetIsTakenInAnyPhase : Prop :=
  ∀ (s : State) (rest : List Input), s.inputs = .reset :: rest →
    step s = .next (resetBlock { s with inputs := rest }) ∧
    ∃ t, step s = .next t ∧
      statusCodeField t.status = 7 ∧ statusCauseField t.status = 0 ∧ statusReservedField t.status = 0 ∧
      (∀ a, Memory.read t.rxbuf a = none) ∧ t.rxcount = 0 ∧
      (∀ a, Memory.read t.txframe a = none) ∧ t.txlen = 0 ∧ t.phase = .idle ∧ t.csumOut = none ∧
      t.payloadValid = false ∧ t.plen = 0 ∧ t.meas = none ∧
      t.inputs = rest ∧ t.cfg = s.cfg ∧ t.writeAnswers = s.writeAnswers ∧ t.readAnswers = s.readAnswers ∧
      t.asked = s.asked

/-- 70_reset_and_hazards.md R261: right after reset, VERIFY and VALIDATE give MALFORMED and DECODE gives
UNCHECKED, and no unwritten byte is read (none of them is a fault). -/
def Obligations.FirstRequestsAfterReset : Prop :=
  exec .verify State.reset = .next { State.reset with status := 0x02 } ∧
  exec .validate State.reset = .next { State.reset with status := 0x02 } ∧
  exec .decode State.reset = .next { State.reset with status := 0x05 }

/-! The checksum. -/

/-- 40_checksum_verifier.md R100: the checksum is (256 - (sum mod 256)) mod 256, the wrapped 255 - S + 1, and it
is 0 exactly when S = 0. -/
def Obligations.ChecksumNegatesTheSum : Prop :=
  ∀ (cfg : Config) (s : List Byte), cfg.byteBits = 8 →
    (checksum cfg s).toNat = (256 - byteSum s % 256) % 256 ∧
    (checksum cfg s).toNat = (255 - byteSum s % 256 + 1) % 256 ∧
    (checksum cfg s = 0 ↔ byteSum s % 256 = 0)

/-- 40_checksum_verifier.md R101: the BYTE_BITS-wide fold, complemented and incremented, is the checksum, whatever
the order of the bytes. -/
def Obligations.ReductionComputesTheChecksum : Prop :=
  (∀ (cfg : Config) (s : List Byte), checksumReduction cfg s = checksum cfg s) ∧
  (∀ (cfg : Config) (s t : List Byte), s.Perm t → checksumReduction cfg s = checksumReduction cfg t)

/-- 40_checksum_verifier.md R102, laws (a) to (e). -/
def Obligations.ChecksumLaws : Prop :=
  ∀ cfg : Config, cfg.byteBits = 8 →
    (∀ s : List Byte, (byteSum s + (checksum cfg s).toNat) % 256 = 0) ∧
    (∀ (s : List Byte) (c : Byte), checksum cfg s = c ↔ (byteSum s + c.toNat) % 256 = 0) ∧
    (∀ s t : List Byte,
      (checksum cfg (s ++ t)).toNat = ((checksum cfg s).toNat + (checksum cfg t).toNat) % 256) ∧
    (∀ s t : List Byte, byteSum s % 256 = byteSum t % 256 → checksum cfg s = checksum cfg t) ∧
    (∀ s t : List Byte, s.Perm t → checksum cfg s = checksum cfg t) ∧
    (∀ s t : List Byte, checksum cfg (s ++ 0x00 :: t) = checksum cfg (s ++ t)) ∧
    (∀ s : List Byte, byteSum s % 256 = 0 → checksum cfg s = 0x00) ∧
    (∀ s : List Byte, byteSum s % 256 = 255 → checksum cfg s = 0x01) ∧
    checksum cfg [] = 0x00 ∧ checksum cfg [0xFF] = 0x01 ∧ checksum cfg [0x01] = 0xFF

/-- 40_checksum_verifier.md R104: checksum-valid is "the last byte is the checksum of the bytes before it", under
any parameters, and with 8-bit bytes equivalently "at least one byte, and a sum of 0 mod 256". -/
def Obligations.ChecksumValidIffSumZero : Prop :=
  ∀ (cfg : Config) (f : List Byte),
    (checksumValid cfg f = true ↔ ∃ g c, f = g ++ [c] ∧ c = checksum cfg g) ∧
    (cfg.byteBits = 8 → (checksumValid cfg f = true ↔ 1 ≤ f.length ∧ byteSum f % 256 = 0))

/-- CSUM (40_checksum_verifier.md R103): its request is 00 N d, N up to CSUM_MAX_LEN; CSUM_OUT takes the checksum
of R100, STATUS is OK, and nothing else changes, memory and transport included. -/
def Obligations.CsumResult : Prop :=
  ∀ (data : List Byte) (s : State), data.length ≤ 255 → data.length ≤ s.cfg.csumMaxLen → s.cfg.byteBits = 8 →
    decodeRequest s.cfg (0x00 :: BitVec.ofNat 8 data.length :: data) = .instr (.csum data) ∧
    exec (.csum data) s = .next { s with
      csumOut := some (BitVec.ofNat 8 ((256 - byteSum data % 256) % 256)), status := 0x00 }

/-- VERIFY (40_checksum_verifier.md R105): MALFORMED on an empty frame, OK exactly when the sum of the frame is
0 mod 256, CHECKSUM_MISMATCH otherwise; nothing but STATUS changes. -/
def Obligations.VerifyResult : Prop :=
  ∀ (s : State) (f : List Byte), s.cfg.byteBits = 8 → f.length = s.rxcount.toNat →
    (∀ a, a < s.rxcount.toNat → Memory.read s.rxbuf a = f[a]?) →
    exec .verify s = .next { s with
      status := if f.length = 0 then 0x02 else if byteSum f % 256 = 0 then 0x00 else 0x01 }

/-! The command frames. -/

/-- 30_encoding.md R67: the four command frames, as bytes and as the words of the opcode table, with the opcode
defaults. -/
def Obligations.DefaultCommandFrames : Prop :=
  commandFrame {} .readMeasure = [0x11, 0x01, 0x01, 0xED] ∧
  commandFrame {} .calibration = [0x11, 0x01, 0x03, 0xEB] ∧
  commandFrame {} .abcParameterCheck = [0x11, 0x01, 0x0F, 0xDF] ∧
  commandFrame {} .abcParameterSet = [0x11, 0x01, 0x10, 0xDE] ∧
  tableBytes 32 0x110101ED = commandFrame {} .readMeasure ∧
  tableBytes 32 0x110103EB = commandFrame {} .calibration ∧
  tableBytes 32 0x11010FDF = commandFrame {} .abcParameterCheck ∧
  tableBytes 32 0x110110DE = commandFrame {} .abcParameterSet

/-- 41_frame_encoder.md R121: the closed form of a command frame's checksum, and its value for 0x01. -/
def Obligations.CommandChecksumClosedForm : Prop :=
  ∀ cfg : Config, cfg.byteBits = 8 →
    (∀ op : Byte, (checksum cfg [0x11, 0x01, op]).toNat = (0xEE + 256 - op.toNat) % 256) ∧
    checksum cfg [0x11, 0x01, 0x01] = 0xED

/-- PACK (41_frame_encoder.md R120): its CTRL is 0x02 | (CMD << 3); TXFRAME takes START_CMD, the length, the
Command's opcode and their checksum, TXLEN is 4, STATUS is OK, and nothing else changes: no other TXFRAME index,
no RXBUF byte, no register. The transport is not asked. -/
def Obligations.PackResult : Prop :=
  ∀ (cmd : Command) (s : State), s.cfg.byteBits = 8 → s.cfg.cmdFrameBytes = 4 →
    decodeRequest s.cfg [0x02 ||| (commandField cmd).zeroExtend 8 <<< 3] = .instr (.pack cmd) ∧
    ∃ t, exec (.pack cmd) s = .next t ∧
    Memory.read t.txframe 0 = some s.cfg.startCmd ∧
    Memory.read t.txframe 1 = some s.cfg.cmdLenField ∧
    Memory.read t.txframe 2 = some (opcodeOf s.cfg cmd) ∧
    Memory.read t.txframe 3 = some (BitVec.ofNat 8 ((256 -
      (s.cfg.startCmd.toNat + s.cfg.cmdLenField.toNat + (opcodeOf s.cfg cmd).toNat) % 256) % 256)) ∧
    (∀ a, 4 ≤ a → Memory.read t.txframe a = Memory.read s.txframe a) ∧
    (∀ a, Memory.read t.rxbuf a = Memory.read s.rxbuf a) ∧
    t = { s with txframe := t.txframe, txlen := 4, status := 0x00 }

/-- The four CMDFRAME rows: each builds the frame of its Command as its row's rule R120 says (DEDUCED, log entry
2), with the frame of PACK. -/
def Obligations.CommandFrameRowsResult : Prop :=
  ∀ (i : Instr) (cmd : Command) (s : State), s.cfg.byteBits = 8 → s.cfg.cmdFrameBytes = 4 →
    (i, cmd) ∈ [(Instr.cmdframeReadMeasure, Command.readMeasure),
      (Instr.cmdframeCalibration, Command.calibration),
      (Instr.cmdframeAbcParameterCheck, Command.abcParameterCheck),
      (Instr.cmdframeAbcParameterSet, Command.abcParameterSet)] →
    ∃ t, exec i s = .next t ∧
      Memory.read t.txframe 0 = some s.cfg.startCmd ∧
      Memory.read t.txframe 1 = some s.cfg.cmdLenField ∧
      Memory.read t.txframe 2 = some (opcodeOf s.cfg cmd) ∧
      Memory.read t.txframe 3 = some (BitVec.ofNat 8 ((256 -
        (s.cfg.startCmd.toNat + s.cfg.cmdLenField.toNat + (opcodeOf s.cfg cmd).toNat) % 256) % 256)) ∧
      (∀ a, 4 ≤ a → Memory.read t.txframe a = Memory.read s.txframe a) ∧
      (∀ a, Memory.read t.rxbuf a = Memory.read s.rxbuf a) ∧
      t = { s with txframe := t.txframe, txlen := 4, status := 0x00 }

/-- A command frame that the host gives the block stands, byte for byte, in TXFRAME after the step (DEDUCED, log
entries 2 and 3), under any parameters, and nothing else changes but TXLEN and STATUS. -/
def Obligations.IssuedCommandFrameStandsInTxframe : Prop :=
  ∀ (s : State) (cmd : Command) (rest : List Input),
    s.inputs = .issue .cmdframe32 (commandFrame s.cfg cmd) :: rest → s.phase = .idle → s.cfg.cmdFrameBytes = 4 →
    ∃ t, step s = .next t ∧ Memory.readBytes t.txframe 0 4 = some (commandFrame s.cfg cmd) ∧
      t = { s with inputs := rest, txframe := t.txframe, txlen := 4, status := 0x00 }

/-- 41_frame_encoder.md R122: every frame PACK builds is checksum-valid, whatever the parameters, and with 8-bit
bytes its sum is 0 mod 256; and with the command's length byte 1, room for it in RXBUF and the EXACT policy it is
accepted with PLEN = 0, so that, fed back, it gives OK from VALIDATE and MALFORMED from DECODE. -/
def Obligations.CommandFrameFedBack : Prop :=
  (∀ (cfg : Config) (cmd : Command), checksumValid cfg (commandFrame cfg cmd) = true ∧
    (cfg.byteBits = 8 → byteSum (commandFrame cfg cmd) % 256 = 0)) ∧
  (∀ (s : State) (cmd : Command), s.cfg.sized = true → 4 ≤ s.cfg.rxbufSize → s.cfg.cmdLenField = 1 →
    s.cfg.lengthPolicy = .exact →
    ∃ t u, execAll [.pack cmd, .rxload (commandFrame s.cfg cmd), .validate] s = .next t ∧
      Memory.readBytes t.txframe 0 4 = some (commandFrame s.cfg cmd) ∧
      t.status = 0x00 ∧ t.payloadValid = true ∧ t.plen = 0 ∧
      exec .decode t = .next u ∧ u.status = 0x02 ∧ u.meas = none)

/-! The receive path. -/

/-- RXLOAD (42_frame_validator.md R140). Its request is 03 N d. Up to RXBUF_SIZE bytes (8 by default) stand at
RXBUF[0 .. N], every other index is as it was, RXCOUNT is N, the frame is unchecked, STATUS is OK, and nothing
else changes; a greater N gives ILLEGAL_OP and no other change, both as the operation and from the request's count
byte. -/
def Obligations.RxloadResult : Prop :=
  ∀ (data : List Byte) (s : State),
    (s.cfg.sized = true → data.length ≤ s.cfg.rxbufSize →
      decodeRequest s.cfg (0x03 :: BitVec.ofNat 8 data.length :: data) = .instr (.rxload data) ∧
      ∃ t, exec (.rxload data) s = .next t ∧
        (∀ a, a < data.length → Memory.read t.rxbuf a = data[a]?) ∧
        (∀ a, data.length ≤ a → Memory.read t.rxbuf a = Memory.read s.rxbuf a) ∧
        (∀ a, Memory.read t.txframe a = Memory.read s.txframe a) ∧
        t.rxcount.toNat = data.length ∧
        t = { s with rxbuf := t.rxbuf, rxcount := t.rxcount, payloadValid := false, plen := 0, status := 0x00 }) ∧
    (s.cfg.rxbufSize < data.length → exec (.rxload data) s = .next { s with status := 0x04 }) ∧
    (∀ n : Byte, s.cfg.rxbufSize < n.toNat →
      decodeRequest s.cfg (0x03 :: n :: data) = .illegal .rxloadTooLong ∧
      illegalRequest .rxloadTooLong s = .next { s with status := 0x04 })

/-- VALIDATE under the EXACT policy (42_frame_validator.md R145, R146, R148), on any frame whose payload PLEN can
count: an empty frame is MALFORMED, a sum other than 0 is CHECKSUM_MISMATCH, fewer than 4 bytes or a length byte
other than n - 3 is MALFORMED, each clearing PAYLOAD_VALID and PLEN; any other frame is accepted with
PLEN = n - 4. Nothing else changes. -/
def Obligations.ValidateResultExact : Prop :=
  ∀ (s : State) (f : List Byte), s.cfg.lengthPolicy = .exact → s.cfg.byteBits = 8 → s.rxcount.toNat ≤ 11 →
    f.length = s.rxcount.toNat → (∀ a, a < s.rxcount.toNat → Memory.read s.rxbuf a = f[a]?) →
    exec .validate s = .next
      (if f.length = 0 then { s with payloadValid := false, plen := 0, status := 0x02 }
      else if byteSum f % 256 ≠ 0 then { s with payloadValid := false, plen := 0, status := 0x01 }
      else if 4 ≤ f.length ∧ f[1]? = some (BitVec.ofNat 8 (f.length - 3)) then
        { s with payloadValid := true, plen := BitVec.ofNat 3 (f.length - 4), status := 0x00 }
      else { s with payloadValid := false, plen := 0, status := 0x02 })

/-- VALIDATE under the BOUNDS policy, the alternative that 92_eei_decisions.md D6 writes out (log entry 13): the
same checks before it, and a frame is accepted exactly when 1 <= len and 2 + len <= n - 1. -/
def Obligations.ValidateResultBounds : Prop :=
  ∀ (s : State) (f : List Byte), s.cfg.lengthPolicy = .bounds → s.cfg.byteBits = 8 → s.rxcount.toNat ≤ 11 →
    f.length = s.rxcount.toNat → (∀ a, a < s.rxcount.toNat → Memory.read s.rxbuf a = f[a]?) →
    (f.length = 0 → exec .validate s = .next { s with payloadValid := false, plen := 0, status := 0x02 }) ∧
    (f.length ≠ 0 → byteSum f % 256 ≠ 0 →
      exec .validate s = .next { s with payloadValid := false, plen := 0, status := 0x01 }) ∧
    (∀ len : Byte, byteSum f % 256 = 0 → f[1]? = some len → 1 ≤ len.toNat → 2 + len.toNat + 1 ≤ f.length →
      exec .validate s = .next
        { s with payloadValid := true, plen := BitVec.ofNat 3 (len.toNat - 1), status := 0x00 }) ∧
    (f.length ≠ 0 → byteSum f % 256 = 0 →
      (∀ len : Byte, f[1]? = some len → ¬(1 ≤ len.toNat ∧ 2 + len.toNat + 1 ≤ f.length)) →
      exec .validate s = .next { s with payloadValid := false, plen := 0, status := 0x02 })

/-- 42_frame_validator.md R147: the first failing check is reported, in the order empty, checksum, structure,
under either length policy: a frame with a wrong checksum and a wrong length byte is a checksum mismatch. -/
def Obligations.FirstFailingCheckIsReported : Prop :=
  ∀ (cfg : Config) (f : List Byte),
    (f = [] → validateFrame cfg f = .rejected .malformed) ∧
    (f ≠ [] → checksumValid cfg f = false → validateFrame cfg f = .rejected .checksumMismatch) ∧
    (checksumValid cfg f = true →
      (f.length < 4 ∨ ∃ len : Byte, f[1]? = some len ∧ lengthFits cfg.lengthPolicy len.toNat f.length = false) →
      validateFrame cfg f = .rejected .malformed)

/-- 42_frame_validator.md R149: an accepted frame of at most 8 bytes has 4 to 8 of them, len = n - 3 in 1..5 and
PLEN = n - 4 in 0..4, and its payload is f[3 .. n-1]. -/
def Obligations.AcceptedFrameShape : Prop :=
  ∀ (cfg : Config) (f : List Byte) (plen : Nat), cfg.lengthPolicy = .exact → cfg.payloadOffset = 3 →
    f.length ≤ 8 → validateFrame cfg f = .accepted plen →
    4 ≤ f.length ∧ (∃ len : Byte, f[1]? = some len ∧ len.toNat = f.length - 3 ∧ 1 ≤ len.toNat ∧ len.toNat ≤ 5) ∧
    plen = f.length - 4 ∧ plen ≤ 4 ∧ payloadOf cfg f plen = (f.drop 3).dropLast

/-- 42_frame_validator.md R153: a frame built over any data segment b that fits the buffer (1 to 5 bytes in the
default 8), with any start marker, loads and validates, with the payload b without its first byte at RXBUF[3 ..];
the function validate, on its own, accepts it for any b of 1 to 255 bytes. -/
def Obligations.FrameRoundTrip : Prop :=
  (∀ (m : Byte) (b : List Byte) (s : State), s.cfg.sized = true → 1 ≤ b.length → b.length + 3 ≤ s.cfg.rxbufSize →
    s.cfg.lengthPolicy = .exact →
    ∃ t, execAll
        [.rxload (m :: BitVec.ofNat 8 b.length :: b ++ [checksum s.cfg (m :: BitVec.ofNat 8 b.length :: b)]),
          .validate] s = .next t ∧
      t.status = 0x00 ∧ t.payloadValid = true ∧ t.plen.toNat = b.length - 1 ∧
      ∀ k, k < b.length - 1 → Memory.read t.rxbuf (3 + k) = b[1 + k]?) ∧
  (∀ (cfg : Config) (m : Byte) (b : List Byte), cfg.lengthPolicy = .exact → 1 ≤ b.length → b.length ≤ 255 →
    validateFrame cfg (m :: BitVec.ofNat 8 b.length :: b ++ [checksum cfg (m :: BitVec.ofNat 8 b.length :: b)]) =
      .accepted (b.length - 1) ∧
    (cfg.payloadOffset = 3 →
      payloadOf cfg (m :: BitVec.ofNat 8 b.length :: b ++ [checksum cfg (m :: BitVec.ofNat 8 b.length :: b)])
        (b.length - 1) = b.tail))

/-- 42_frame_validator.md R148 and 92_eei_decisions.md D6: every frame EXACT accepts, BOUNDS accepts with the
same payload, whatever the other parameters; and with the defaults there is a frame that BOUNDS accepts and EXACT
rejects. -/
def Obligations.ExactRefinesBounds : Prop :=
  (∀ (cfg : Config) (f : List Byte) (plen : Nat),
    validateFrame { cfg with lengthPolicy := .exact } f = .accepted plen →
    validateFrame { cfg with lengthPolicy := .bounds } f = .accepted plen) ∧
  (∃ f plen, validateFrame { lengthPolicy := .bounds } f = .accepted plen ∧
    validateFrame { lengthPolicy := .exact } f = .rejected .malformed)

/-! The measurement. -/

/-- DECODE (43_frame_decoder.md R170), whose request is 05: without an accepted frame UNCHECKED, with a payload of
fewer than two bytes MALFORMED, each leaving no measurement; otherwise MEAS is 256 * RXBUF[PAYLOAD_OFFSET] +
RXBUF[PAYLOAD_OFFSET + 1], where MEAS_BITS holds every such value. Nothing but MEAS and STATUS changes. -/
def Obligations.DecodeResult : Prop :=
  (∀ cfg : Config, decodeRequest cfg [0x05] = .instr .decode) ∧
  ∀ s : State,
    (s.payloadValid = false → exec .decode s = .next { s with meas := none, status := 0x05 }) ∧
    (s.payloadValid = true → s.plen.toNat < 2 →
      exec .decode s = .next { s with meas := none, status := 0x02 }) ∧
    (∀ hi lo : Byte, s.cfg.byteBits = 8 → 17 ≤ s.cfg.measBits → s.payloadValid = true → 2 ≤ s.plen.toNat →
      Memory.read s.rxbuf s.cfg.payloadOffset = some hi → Memory.read s.rxbuf (s.cfg.payloadOffset + 1) = some lo →
      exec .decode s = .next { s with
        meas := some (256 * (hi.toNat : Int) + (lo.toNat : Int)), status := 0x00 })

/-- 43_frame_decoder.md R171: MEAS is always in 0..65535, and the 32 bits it is held in have [31:16] zero: it is so
at reset, and every step keeps it so, with the R7 values of BYTE_BITS and MEAS_BITS. -/
def Obligations.MeasurementRangeIsKept : Prop :=
  (∀ m, State.reset.meas = some m →
    0 ≤ m ∧ m ≤ 65535 ∧ (measWord State.reset.cfg m).extractLsb' 16 16 = 0 ∧ (measWord State.reset.cfg m).toInt = m) ∧
  (∀ s t : State, s.cfg.byteBits = 8 → s.cfg.measBits = 32 →
    (∀ m, s.meas = some m →
      0 ≤ m ∧ m ≤ 65535 ∧ (measWord s.cfg m).extractLsb' 16 16 = 0 ∧ (measWord s.cfg m).toInt = m) →
    step s = .next t →
    ∀ m, t.meas = some m →
      0 ≤ m ∧ m ≤ 65535 ∧ (measWord t.cfg m).extractLsb' 16 16 = 0 ∧ (measWord t.cfg m).toInt = m)

/-- 43_frame_decoder.md R172: DECODE reads the first two payload bytes only, RXBUF[3] and RXBUF[4] by default. On a
buffer with the same two bytes and any others, it ends the same way, with that other buffer as it was. -/
def Obligations.DecodeReadsTwoPayloadBytes : Prop :=
  ∀ (s t : State) (m : Memory),
    Memory.read m s.cfg.payloadOffset = Memory.read s.rxbuf s.cfg.payloadOffset →
    Memory.read m (s.cfg.payloadOffset + 1) = Memory.read s.rxbuf (s.cfg.payloadOffset + 1) →
    exec .decode s = .next t → exec .decode { s with rxbuf := m } = .next { t with rxbuf := m }

/-- 43_frame_decoder.md R173, 70_reset_and_hazards.md R264: where the invariant holds, a DECODE that leaves a
measurement read it from the current frame, the bytes below RXCOUNT: the frame_validator accepts it with a payload of
PLEN bytes, so that it is checksum-valid and has at least 6 bytes, and the two bytes read are its payload's first. -/
def Obligations.MeasurementComesFromAnAcceptedFrame : Prop :=
  ∀ (s t : State) (m : Int), s.Inv → s.cfg.byteBits = 8 → exec .decode s = .next t → t.meas = some m →
    ∃ f : List Byte, f.length = s.rxcount.toNat ∧
      (∀ a, a < s.rxcount.toNat → Memory.read s.rxbuf a = f[a]?) ∧
      validateFrame s.cfg f = .accepted s.plen.toNat ∧ 6 ≤ f.length ∧ byteSum f % 256 = 0 ∧
      ∃ (hi lo : Byte) (more : List Byte), f[s.cfg.payloadOffset]? = some hi ∧
        f[s.cfg.payloadOffset + 1]? = some lo ∧ payloadOf s.cfg f s.plen.toNat = hi :: lo :: more ∧
        m = 256 * (hi.toNat : Int) + (lo.toNat : Int)

/-- Where the invariant holds, no frame unit reads a byte that holds no value (10_state.md R21, R31;
93_implementation_defined.md I1): VERIFY, VALIDATE and DECODE end the same way whatever numbers `u` one takes for the
bytes of RXBUF without a value, so nothing they do depends on the free value that the model reads for such a byte in
states no run reaches (the model's choice, log entry 8). -/
def Obligations.NoValueIsNeverReadAsANumber : Prop :=
  ∀ (s : State) (u : Nat → Byte), s.Inv →
    (∀ f : List Byte, f.length = s.rxcount.toNat →
      (∀ a, a < s.rxcount.toNat → f[a]? = some ((Memory.read s.rxbuf a).getD (u a))) →
      exec .verify s = .next (verifyBytes f s) ∧ exec .validate s = .next (validateBytes f s)) ∧
    exec .decode s = .next (decodeChecked ((Memory.read s.rxbuf s.cfg.payloadOffset).getD (u s.cfg.payloadOffset))
      ((Memory.read s.rxbuf (s.cfg.payloadOffset + 1)).getD (u (s.cfg.payloadOffset + 1))) s)

/-! READMEAS. -/

/-- READMEAS whose write fails (44_transaction.md R191, R193): TXFRAME holds the ReadMeasure frame, RXBUF is as
it was, RXCOUNT is 0, no payload and no measurement, STATUS is TRANSPORT_ERROR with WRITE_FAILED, and the read
is not asked. -/
def Obligations.ReadmeasWriteFailed : Prop :=
  ∀ s : State, s.cfg.cmdFrameBytes = 4 → writeAnswerFrom s.writeAnswers s.asked.length = .fail →
    ∃ t, exec .readmeas s = .next t ∧
      Memory.readBytes t.txframe 0 4 = some (commandFrame s.cfg .readMeasure) ∧
      (∀ a, 4 ≤ a → Memory.read t.txframe a = Memory.read s.txframe a) ∧
      (∀ a, Memory.read t.rxbuf a = Memory.read s.rxbuf a) ∧
      t = { s with
        txframe := t.txframe, txlen := 4, rxcount := 0, payloadValid := false, plen := 0, meas := none,
        status := 0x0B, phase := .idle, writeAnswers := s.writeAnswers.tail,
        asked := s.asked ++ [.write (commandFrame s.cfg .readMeasure)] }

/-- READMEAS whose read brings no byte (44_transaction.md R191, R194): as with a failed write, but with TIMEOUT
for a time-out and NO_RESPONSE for zero bytes, and the read asked after the write. -/
def Obligations.ReadmeasNoData : Prop :=
  ∀ (s : State) (r : ReadAnswer), s.cfg.cmdFrameBytes = 4 →
    writeAnswerFrom s.writeAnswers s.asked.length = .ok →
    readAnswerFrom s.cfg.rxbufSize s.readAnswers (s.asked.length + 1) = r →
    (r = .timeout ∨ r = .data []) →
    ∃ t, exec .readmeas s = .next t ∧
      Memory.readBytes t.txframe 0 4 = some (commandFrame s.cfg .readMeasure) ∧
      (∀ a, 4 ≤ a → Memory.read t.txframe a = Memory.read s.txframe a) ∧
      (∀ a, Memory.read t.rxbuf a = Memory.read s.rxbuf a) ∧
      t = { s with
        txframe := t.txframe, txlen := 4, rxcount := 0, payloadValid := false, plen := 0, meas := none,
        status := if r = .timeout then 0x1B else 0x13, phase := .idle,
        writeAnswers := s.writeAnswers.tail, readAnswers := s.readAnswers.tail,
        asked := s.asked ++ [.write (commandFrame s.cfg .readMeasure), .read] }

/-- READMEAS whose read brings bytes f (44_transaction.md R191, R194, R195): f stands at RXBUF[0 .. |f|] with the
rest stale and RXCOUNT = |f|; the frame_validator judges f alone; an accepted f with two payload bytes gives the
measurement 256 * f[PAYLOAD_OFFSET] + f[PAYLOAD_OFFSET + 1], with fewer MALFORMED with PAYLOAD_VALID = 1. -/
def Obligations.ReadmeasData : Prop :=
  ∀ (s : State) (d : List Byte), s.cfg.sized = true → s.cfg.byteBits = 8 →
    writeAnswerFrom s.writeAnswers s.asked.length = .ok →
    readAnswerFrom s.cfg.rxbufSize s.readAnswers (s.asked.length + 1) = .data d → d ≠ [] →
    ∃ t, exec .readmeas s = .next t ∧
      Memory.readBytes t.txframe 0 4 = some (commandFrame s.cfg .readMeasure) ∧
      (∀ a, 4 ≤ a → Memory.read t.txframe a = Memory.read s.txframe a) ∧
      (∀ a, a < d.length → Memory.read t.rxbuf a = d[a]?) ∧
      (∀ a, d.length ≤ a → Memory.read t.rxbuf a = Memory.read s.rxbuf a) ∧
      t.rxcount.toNat = d.length ∧
      (∀ e, validateFrame s.cfg d = .rejected e →
        t.status = statusOfError e ∧ t.payloadValid = false ∧ t.plen = 0 ∧ t.meas = none) ∧
      (∀ plen, validateFrame s.cfg d = .accepted plen →
        t.payloadValid = true ∧ t.plen.toNat = plen ∧
        (plen < 2 → t.status = 0x02 ∧ t.meas = none) ∧
        (∀ hi lo : Byte, 2 ≤ plen → d[s.cfg.payloadOffset]? = some hi → d[s.cfg.payloadOffset + 1]? = some lo →
          t.status = 0x00 ∧ t.meas = some (256 * (hi.toNat : Int) + (lo.toNat : Int)))) ∧
      t = { s with
        txframe := t.txframe, txlen := 4, rxbuf := t.rxbuf, rxcount := t.rxcount,
        payloadValid := t.payloadValid, plen := t.plen, meas := t.meas, status := t.status, phase := .idle,
        writeAnswers := s.writeAnswers.tail, readAnswers := s.readAnswers.tail,
        asked := s.asked ++ [.write (commandFrame s.cfg .readMeasure), .read] }

/-- 44_transaction.md R195: when the write succeeds and the read brings bytes the validator accepts, READMEAS
ends in the state of PACK ReadMeasure; RXLOAD; VALIDATE; DECODE, but for what passed between the block and the
transport. When the validator rejects them, the sequence ends UNCHECKED instead, and READMEAS with the
validator's error. It is so under any parameters for which RXCOUNT counts the whole buffer; where they are without
Config.sized, that the DECODE phase follows the request DECODE is the model's choice (log entry 19). -/
def Obligations.ReadmeasIsTheFourRequests : Prop :=
  ∀ (s : State) (d : List Byte), s.cfg.rxbufSize ≤ 15 → s.phase = .idle →
    writeAnswerFrom s.writeAnswers s.asked.length = .ok →
    readAnswerFrom s.cfg.rxbufSize s.readAnswers (s.asked.length + 1) = .data d → d ≠ [] →
    ∃ t u, exec .readmeas s = .next t ∧
      execAll [.pack .readMeasure, .rxload d, .validate, .decode] s = .next u ∧
      (∀ plen, validateFrame s.cfg d = .accepted plen →
        t = { u with
          writeAnswers := s.writeAnswers.tail, readAnswers := s.readAnswers.tail,
          asked := s.asked ++ [.write (commandFrame s.cfg .readMeasure), .read] }) ∧
      (∀ e, validateFrame s.cfg d = .rejected e →
        u.status = 0x05 ∧ t.status = statusOfError e)

/-- 44_transaction.md R201, R202: READMEAS ends, with the phase IDLE, in one of the four results of the session,
and only OK comes with a measurement. That it always ends rests on the transport's duty to answer (R197), which
the model assumes (DESIGN CHOICE, log entry 7). -/
def Obligations.ReadmeasEndsInASessionResult : Prop :=
  ∀ s : State, ∃ t, exec .readmeas s = .next t ∧ t.phase = .idle ∧
    ((∃ m, t.status = 0x00 ∧ t.meas = some m ∧ sessionResult t = some (.ppm m)) ∨
      (statusCodeField t.status = 3 ∧ t.meas = none ∧ sessionResult t = some .transportError) ∨
      (t.status = 0x01 ∧ t.meas = none ∧ sessionResult t = some .protocolError) ∨
      (t.status = 0x02 ∧ t.meas = none ∧ sessionResult t = some .malformed))

/-- 44_transaction.md R198, 20_memory.md R49: only READMEAS asks the transport anything. It offers the whole
ReadMeasure frame once, and then reads at most once, and only after the write succeeded. -/
def Obligations.TransportIsAskedOnceInOrder : Prop :=
  ∀ (i : Instr) (s t : State), exec i s = .next t →
    (i ≠ .readmeas → t.asked = s.asked) ∧
    (i = .readmeas →
      t.asked = s.asked ++ (.write (commandFrame s.cfg .readMeasure) ::
        if writeAnswerFrom s.writeAnswers s.asked.length = .ok then [.read] else []))

/-! The whole machine. -/

/-- 10_state.md R20: what any instruction leaves in STATUS. Bits [7:5] are 0, CODE is neither 6 nor 7, and TCAUSE
is a cause exactly when CODE is TRANSPORT_ERROR, which only READMEAS gives (60_exceptions.md R221, R224). -/
def Obligations.StatusAfterAnyInstruction : Prop :=
  ∀ (i : Instr) (s t : State), exec i s = .next t →
    statusReservedField t.status = 0 ∧ statusCodeField t.status ≠ 6 ∧ statusCodeField t.status ≠ 7 ∧
    (statusCauseField t.status ≠ 0 ↔ statusCodeField t.status = 3) ∧
    (statusCodeField t.status = 3 → i = .readmeas)

/-- 10_state.md R28: each register is written only by the operations the register summary lists (a CMDFRAME row
counts as the PACK its rule is, log entry 2). -/
def Obligations.RegistersHaveOnlyTheirWriters : Prop :=
  ∀ (i : Instr) (s t : State), exec i s = .next t →
    ((∀ d, i ≠ .rxload d) → i ≠ .readmeas → t.rxbuf = s.rxbuf ∧ t.rxcount = s.rxcount) ∧
    ((∀ c, i ≠ .pack c) → i ≠ .readmeas → i.format = .ctrl8 → t.txframe = s.txframe ∧ t.txlen = s.txlen) ∧
    ((∀ d, i ≠ .csum d) → t.csumOut = s.csumOut) ∧
    (i ≠ .validate → (∀ d, i ≠ .rxload d) → i ≠ .readmeas →
      t.payloadValid = s.payloadValid ∧ t.plen = s.plen) ∧
    (i ≠ .decode → i ≠ .readmeas → t.meas = s.meas)

/-- 20_memory.md R54: a write of n bytes by RXLOAD or by the READ phase of READMEAS sets RXBUF[i] for i < n; after
any well-formed instruction every index from RXCOUNT up is exactly as it was; and a byte that held a value still
holds one: the buffer is never cleared. -/
def Obligations.ReceiveBufferIsNeverCleared : Prop :=
  ∀ (i : Instr) (s t : State), s.cfg.sized = true → i.wellFormed s.cfg = true → exec i s = .next t →
    (∀ d, i = .rxload d → ∀ a, a < d.length → Memory.read t.rxbuf a = d[a]?) ∧
    (∀ d : List Byte, i = .readmeas → writeAnswerFrom s.writeAnswers s.asked.length = .ok →
      readAnswerFrom s.cfg.rxbufSize s.readAnswers (s.asked.length + 1) = .data d →
      ∀ a, a < d.length → Memory.read t.rxbuf a = d[a]?) ∧
    (∀ a, t.rxcount.toNat ≤ a → Memory.read t.rxbuf a = Memory.read s.rxbuf a) ∧
    (∀ a b, Memory.read s.rxbuf a = some b → ∃ c, Memory.read t.rxbuf a = some c)

/-- 00_scope.md R11, 60_exceptions.md R228: DECODE and READMEAS leave a measurement exactly when they end in OK. -/
def Obligations.NoErrorProducesAMeasurement : Prop :=
  ∀ (i : Instr) (s t : State), i = .decode ∨ i = .readmeas → exec i s = .next t →
    (statusCodeField t.status = 0 ↔ ∃ m, t.meas = some m)

/-- 20_memory.md R45: VERIFY, VALIDATE or DECODE again, with nothing in between, gives the same state. -/
def Obligations.RepeatedChecksAreIdempotent : Prop :=
  ∀ (i : Instr) (s t : State), i = .verify ∨ i = .validate ∨ i = .decode →
    exec i s = .next t → exec i t = .next t

/-- 10_state.md R29: no step changes the parameters of the instance. -/
def Obligations.ParametersAreFixed : Prop :=
  ∀ s t : State, step s = .next t → t.cfg = s.cfg

/-- The invariant of the block (10_state.md R20 to R27) holds at reset. -/
def Obligations.InvariantHoldsAtReset : Prop :=
  State.reset.Inv

/-- Every step keeps the invariant: the shape of STATUS, the phase IDLE, the canonical form of both byte spaces, the
ranges of RXCOUNT, TXLEN and PLEN, a value in every byte below RXCOUNT, a PACK frame in TXFRAME when TXLEN is 4, an
accepted frame in RXBUF when PAYLOAD_VALID is 1, and the range of MEAS (10_state.md R20 to R27). -/
def Obligations.StepKeepsTheInvariant : Prop :=
  ∀ s t : State, s.Inv → step s = .next t → t.Inv

/-- Every instruction completes in every state; where the invariant holds, it completes in a state where the
invariant holds, and every byte that a frame unit reads holds a value (10_state.md R21; 43_frame_decoder.md R173).
For the four CMDFRAME rows this is about the model's reading of them (DEDUCED, log entry 2); for READMEAS it rests
on the transport's duty R197 (log entry 7); outside the invariant the frame units read free values (log entry 8). -/
def Obligations.EveryInstructionCompletesUnderTheInvariant : Prop :=
  ∀ (i : Instr) (s : State), Completes (exec i s) ∧
    (s.Inv → (∃ t, exec i s = .next t ∧ t.Inv) ∧
      (∀ a, a < s.rxcount.toNat → ∃ b, Memory.read s.rxbuf a = some b) ∧
      (s.payloadValid = true → 2 ≤ s.plen.toNat → s.cfg.payloadOffset + 1 < s.rxcount.toNat))

/-- 70_reset_and_hazards.md R263: no instruction lets a stale byte show. From two states that differ in RXBUF
bytes at RXCOUNT and up only, every well-formed instruction completes, and the two states after it differ in such
bytes only: every register is the same. -/
def Obligations.StaleBytesDoNotMatter : Prop :=
  ∀ (i : Instr) (s s' : State), i.wellFormed s.cfg = true → s.Inv → s'.Inv → SameButStale s s' →
    ∃ t t', exec i s = .next t ∧ exec i s' = .next t' ∧ SameButStale t t'

/-- A host read of an index outside RXBUF or TXFRAME, of which no byte exists (20_memory.md R40), delivers nothing:
it is a fault of the model (the model's choice, log entry 15). -/
def Obligations.HostReadOutsideTheSpacesFaults : Prop :=
  ∀ (s : State) (a : Nat),
    (s.cfg.rxbufSize ≤ a → hostRead (.rxbuf a) s = .error .noSuchByte) ∧
    (s.cfg.cmdFrameBytes ≤ a → hostRead (.txframe a) s = .error .noSuchByte)
end

