-- ==== Sys2Proof/Laws/Config.lean ====
section
/-! SUPPORT. What it means that the parameters fit the registers, and that the defaults do. -/

namespace Sys2Proof

theorem Config.sized_iff (cfg : Config) :
    cfg.sized = true ↔
      cfg.byteBits ≤ 8 ∧ cfg.cmdFrameBytes = 4 ∧ cfg.rxbufSize ≤ 11 ∧ cfg.payloadOffset ≤ 3 ∧ 17 ≤ cfg.measBits := by
  simp [Config.sized, and_assoc]

/-- The parameters of 00_scope.md R7 fit. -/
theorem Config.default_sized : ({} : Config).sized = true := by decide

end Sys2Proof
end

