-- ==== Sys2Proof/Laws/Frame.lean ====
section
/-! SUPPORT. The frame codec: sums of bytes, the shape of a command frame, and what each verdict of the
frame_validator means. -/

namespace Sys2Proof.Machine

@[simp] theorem byteSum_nil : byteSum [] = 0 := rfl

@[simp] theorem byteSum_cons (b : Byte) (s : List Byte) : byteSum (b :: s) = b.toNat + byteSum s := rfl

@[simp] theorem byteSum_append (s t : List Byte) : byteSum (s ++ t) = byteSum s + byteSum t := by
  induction s with
  | nil => simp
  | cons b s ih => simp [ih, Nat.add_assoc]

theorem byteModulus_eight {cfg : Config} (h : cfg.byteBits = 8) : byteModulus cfg = 256 := by
  simp [byteModulus, h]

theorem byteModulus_pos (cfg : Config) : 0 < byteModulus cfg :=
  Nat.two_pow_pos _

theorem byteModulus_le {cfg : Config} (h : cfg.byteBits ≤ 8) : byteModulus cfg ≤ 256 :=
  Nat.pow_le_pow_right (by decide) h

/-- The checksum of 8-bit bytes (40_checksum_verifier.md R100). -/
theorem checksum_toNat {cfg : Config} (h : cfg.byteBits = 8) (s : List Byte) :
    (checksum cfg s).toNat = (256 - byteSum s % 256) % 256 := by
  simp [checksum, byteModulus_eight h]

@[simp] theorem commandFrame_length (cfg : Config) (cmd : Command) : (commandFrame cfg cmd).length = 4 := rfl

@[simp] theorem checksumValid_nil (cfg : Config) : checksumValid cfg [] = false := rfl

/-- A frame that ends in its checksum is checksum-valid. -/
@[simp] theorem checksumValid_append (cfg : Config) (g : List Byte) (c : Byte) :
    checksumValid cfg (g ++ [c]) = (c == checksum cfg g) := by
  simp [checksumValid]

/-- The measurement fits MEAS, so no bit of it is lost and none is a sign. -/
theorem measurementOf_eq {cfg : Config} (h : cfg.byteBits ≤ 8) (h17 : 17 ≤ cfg.measBits) (hi lo : Byte) :
    measurementOf cfg hi lo = (byteModulus cfg * hi.toNat + lo.toNat : Nat) := by
  have hm := Nat.mul_le_mul (byteModulus_le h) (Nat.le_of_lt_succ hi.isLt)
  have hlo := lo.isLt
  have hp : 2 ^ 17 ≤ 2 ^ cfg.measBits := Nat.pow_le_pow_right (by decide) h17
  have hlt : byteModulus cfg * hi.toNat + lo.toNat < 65536 := by omega
  have e : (BitVec.ofNat cfg.measBits (byteModulus cfg * hi.toNat + lo.toNat)).toNat =
      byteModulus cfg * hi.toNat + lo.toNat := by
    rw [BitVec.toNat_ofNat, Nat.mod_eq_of_lt (Nat.lt_of_lt_of_le (by omega) hp)]
  have hs : 2 * (byteModulus cfg * hi.toNat + lo.toNat) < 2 ^ cfg.measBits := Nat.lt_of_lt_of_le (by omega) hp
  rw [measurementOf, BitVec.toInt_eq_toNat_of_lt (by rwa [e]), e]

theorem measurementOf_range {cfg : Config} (h : cfg.byteBits ≤ 8) (h17 : 17 ≤ cfg.measBits) (hi lo : Byte) :
    0 ≤ measurementOf cfg hi lo ∧ measurementOf cfg hi lo ≤ 65535 := by
  have hm := Nat.mul_le_mul (byteModulus_le h) (Nat.le_of_lt_succ hi.isLt)
  have hlo := lo.isLt
  rw [measurementOf_eq h h17]
  omega

/-- The verdict on a frame, check by check. -/
theorem validateFrame_nil (cfg : Config) :
    validateFrame cfg [] = .rejected .malformed := rfl

theorem validateFrame_mismatch (cfg : Config) {f : List Byte} (hf : f ≠ [])
    (hc : checksumValid cfg f = false) : validateFrame cfg f = .rejected .checksumMismatch := by
  simp [validateFrame, hf, hc]

theorem validateFrame_short (cfg : Config) {f : List Byte} (hc : checksumValid cfg f = true)
    (hn : f.length < 4) : validateFrame cfg f = .rejected .malformed := by
  match f, hn with
  | [], _ => rfl
  | [_], _ => simp [validateFrame, hc]
  | [_, _], _ => simp [validateFrame, hc]
  | [_, _, _], _ => simp [validateFrame, hc]

theorem validateFrame_long (cfg : Config) (m len x y : Byte) (rest : List Byte)
    (hc : checksumValid cfg (m :: len :: x :: y :: rest) = true) :
    validateFrame cfg (m :: len :: x :: y :: rest) =
      if lengthFits cfg.lengthPolicy len.toNat (rest.length + 4) then .accepted (len.toNat - 1)
      else .rejected .malformed := by
  simp [validateFrame, hc]

/-- What an accepted frame is. -/
theorem validateFrame_accepted {cfg : Config} {f : List Byte} {plen : Nat}
    (h : validateFrame cfg f = .accepted plen) :
    ∃ m len x y rest, f = m :: len :: x :: y :: rest ∧ checksumValid cfg f = true ∧
      lengthFits cfg.lengthPolicy len.toNat f.length = true ∧ plen = len.toNat - 1 := by
  unfold validateFrame at h
  split at h
  · cases h
  · split at h
    · cases h
    · rename_i hc
      split at h
      · split at h
        · rename_i hl
          cases h
          exact ⟨_, _, _, _, _, rfl, by simpa using hc, hl, rfl⟩
        · cases h
      · cases h

/-- The frame_validator has two errors. -/
theorem validateFrame_rejected {cfg : Config} {f : List Byte} {e : RequestError}
    (h : validateFrame cfg f = .rejected e) : e = .malformed ∨ e = .checksumMismatch := by
  unfold validateFrame at h
  split at h
  · cases h
    exact .inl rfl
  · split at h
    · cases h
      exact .inr rfl
    · split at h
      · split at h
        · cases h
        · cases h
          exact .inl rfl
      · cases h
        exact .inl rfl

/-- An accepted frame holds its whole payload. -/
theorem payloadOf_length {cfg : Config} {f : List Byte} {plen : Nat} (ho : cfg.payloadOffset ≤ 3)
    (h : validateFrame cfg f = .accepted plen) : (payloadOf cfg f plen).length = plen := by
  obtain ⟨m, len, x, y, rest, rfl, -, hl, rfl⟩ := validateFrame_accepted h
  cases hp : cfg.lengthPolicy <;> simp [lengthFits, hp] at hl <;> simp [payloadOf] <;> omega

/-- The first two bytes of an accepted frame's payload are the frame's bytes at PAYLOAD_OFFSET and after it. -/
theorem payloadOf_two {cfg : Config} {f : List Byte} {plen : Nat} (ho : cfg.payloadOffset ≤ 3)
    (h : validateFrame cfg f = .accepted plen) (hp : 2 ≤ plen) :
    ∃ hi lo more, payloadOf cfg f plen = hi :: lo :: more ∧ f[cfg.payloadOffset]? = some hi ∧
      f[cfg.payloadOffset + 1]? = some lo := by
  have hl := payloadOf_length ho h
  match hq : payloadOf cfg f plen with
  | hi :: lo :: more =>
    have h0 := congrArg (fun l => l[0]?) hq
    have h1 := congrArg (fun l => l[1]?) hq
    simp [payloadOf, List.getElem?_take] at h0 h1
    exact ⟨hi, lo, more, rfl, h0.2, h1.2⟩
  | [_] =>
    rw [hq, List.length_singleton] at hl
    omega
  | [] =>
    rw [hq, List.length_nil] at hl
    omega

end Sys2Proof.Machine
end

