-- ==== Sys2Proof/Laws/Memory.lean ====
section
/-! SUPPORT. The byte spaces: a read after a write, the bytes a run of writes leaves, the bytes a run of reads
gives, and the canonical form that every write keeps. -/

namespace Sys2Proof.Machine

@[simp] theorem Memory.read_nil (a : Nat) : Memory.read [] a = none := rfl

@[simp] theorem Memory.read_write_same (m : Memory) (a : Nat) (b : Byte) :
    Memory.read (Memory.write m a b) a = some b := by
  induction m with
  | nil => simp [Memory.write, Memory.read]
  | cons c m ih =>
    obtain ⟨k, v⟩ := c
    simp only [Memory.write]
    split
    · simp [Memory.read]
    · split
      · simp [Memory.read]
      · rename_i h
        simp [Memory.read, ih, Ne.symm h]

theorem Memory.read_write_other (m : Memory) {a i : Nat} (b : Byte) (h : i ≠ a) :
    Memory.read (Memory.write m a b) i = Memory.read m i := by
  induction m with
  | nil => simp [Memory.write, Memory.read, Ne.symm h]
  | cons c m ih =>
    obtain ⟨k, v⟩ := c
    simp only [Memory.write]
    split
    · simp [Memory.read, Ne.symm h]
    · split
      · subst_vars
        simp [Memory.read, Ne.symm h]
      · simp [Memory.read, ih]

/-- What a run of writes leaves at an index: the byte written there, or what stood there. -/
theorem Memory.read_writeBytes (s : List Byte) (m : Memory) (a i : Nat) :
    Memory.read (Memory.writeBytes m a s) i =
      if a ≤ i ∧ i < a + s.length then s[i - a]? else Memory.read m i := by
  induction s generalizing m a with
  | nil =>
    have h : ¬(a ≤ i ∧ i < a + ([] : List Byte).length) := by simp
    simp [Memory.writeBytes]
  | cons b s ih =>
    simp only [Memory.writeBytes, ih]
    rcases Nat.lt_trichotomy i a with h | h | h
    · rw [if_neg (by omega), if_neg (by simp; omega), Memory.read_write_other m b (by omega)]
    · subst h
      rw [if_neg (by omega), if_pos (by simp)]
      simp
    · obtain ⟨d, rfl⟩ : ∃ d, i = a + 1 + d := ⟨i - (a + 1), by omega⟩
      have e : a + 1 + d - a = (a + 1 + d - (a + 1)) + 1 := by omega
      rw [e, List.getElem?_cons_succ, Memory.read_write_other m b (by omega)]
      congr 1
      simp
      omega

/-- The bytes a run of writes puts in place. -/
theorem Memory.read_writeBytes_inside (s : List Byte) (m : Memory) {a i : Nat} (h : i < s.length) :
    Memory.read (Memory.writeBytes m a s) (a + i) = s[i]? := by
  rw [Memory.read_writeBytes, if_pos (by omega)]
  congr 1
  omega

/-- Every index above or below a run of writes is as it was. -/
theorem Memory.read_writeBytes_outside (s : List Byte) (m : Memory) {a i : Nat}
    (h : i < a ∨ a + s.length ≤ i) :
    Memory.read (Memory.writeBytes m a s) i = Memory.read m i := by
  rw [Memory.read_writeBytes, if_neg (by omega)]

/-- A run of reads gives `f` exactly when `f` has that many bytes and each is the byte that stands there. -/
theorem Memory.readBytes_eq_some_iff (m : Memory) (n a : Nat) (f : List Byte) :
    Memory.readBytes m a n = some f ↔
      f.length = n ∧ ∀ i, i < n → Memory.read m (a + i) = f[i]? := by
  induction n generalizing a f with
  | zero =>
    constructor
    · rintro h
      cases h
      simp
    · rintro ⟨h, -⟩
      simp [Memory.readBytes, List.length_eq_zero_iff.mp h]
  | succ n ih =>
    constructor
    · intro h
      simp only [Memory.readBytes] at h
      split at h
      · rename_i b s hb hs
        cases h
        obtain ⟨hl, hr⟩ := (ih _ _).mp hs
        refine ⟨by simp [hl], fun i hi => ?_⟩
        cases i with
        | zero => simpa using hb
        | succ i =>
          have e : a + (i + 1) = a + 1 + i := by omega
          rw [e, hr i (by omega)]
          simp
      · cases h
    · rintro ⟨hl, hr⟩
      obtain ⟨b, s, rfl⟩ := List.exists_cons_of_length_eq_add_one hl
      have h0 : Memory.read m a = some b := by simpa using hr 0 (by omega)
      have hs : Memory.readBytes m (a + 1) n = some s := by
        refine (ih _ _).mpr ⟨by simpa using hl, fun i hi => ?_⟩
        have e : a + 1 + i = a + (i + 1) := by omega
        rw [e, hr (i + 1) (by omega)]
        simp
      simp [Memory.readBytes, h0, hs]

/-- A run of reads over the bytes just written gives them back. -/
theorem Memory.readBytes_writeBytes (s : List Byte) (m : Memory) (a : Nat) :
    Memory.readBytes (Memory.writeBytes m a s) a s.length = some s :=
  (Memory.readBytes_eq_some_iff _ _ _ _).mpr
    ⟨rfl, fun _ hi => Memory.read_writeBytes_inside s m hi⟩

/-- A run of reads depends on the bytes it reads only. -/
theorem Memory.readBytes_congr (m m' : Memory) (n a : Nat)
    (h : ∀ i, i < n → Memory.read m' (a + i) = Memory.read m (a + i)) :
    Memory.readBytes m' a n = Memory.readBytes m a n := by
  induction n generalizing a with
  | zero => rfl
  | succ n ih =>
    have h0 : Memory.read m' a = Memory.read m a := by simpa using h 0 (by omega)
    have hs : Memory.readBytes m' (a + 1) n = Memory.readBytes m (a + 1) n :=
      ih (a + 1) fun i hi => by
        have := h (i + 1) (by omega)
        rwa [show a + (i + 1) = a + 1 + i by omega] at this
    simp [Memory.readBytes, h0, hs]

/-! What a frame unit reads. -/

theorem Memory.unitRead_of_read {m : Memory} {a : Nat} {b : Byte} (h : Memory.read m a = some b) :
    Memory.unitRead m a = b := by
  simp [Memory.unitRead, h]

theorem Memory.unitRead_congr {m m' : Memory} {a : Nat} (h : Memory.read m' a = Memory.read m a) :
    Memory.unitRead m' a = Memory.unitRead m a := by
  simp [Memory.unitRead, h]

@[simp] theorem Memory.unitReadBytes_length (m : Memory) (n : Nat) : (Memory.unitReadBytes m n).length = n := by
  simp [Memory.unitReadBytes]

theorem Memory.unitReadBytes_getElem? (m : Memory) {n i : Nat} (h : i < n) :
    (Memory.unitReadBytes m n)[i]? = some (Memory.unitRead m i) := by
  simp [Memory.unitReadBytes, h]

/-- Where the bytes hold values, a frame unit reads those values. -/
theorem Memory.unitReadBytes_eq {m : Memory} {n : Nat} {f : List Byte} (hl : f.length = n)
    (hr : ∀ i, i < n → Memory.read m i = f[i]?) : Memory.unitReadBytes m n = f := by
  refine List.ext_getElem? fun i => ?_
  by_cases hi : i < n
  · have hf : f[i]? = some f[i] := List.getElem?_eq_getElem (by omega)
    rw [Memory.unitReadBytes_getElem? m hi, Memory.unitRead_of_read ((hr i hi).trans hf), hf]
  · rw [List.getElem?_eq_none (by simp; omega), List.getElem?_eq_none (by omega)]

/-- A frame unit's reads depend on the bytes it reads only. -/
theorem Memory.unitReadBytes_congr {m m' : Memory} {n : Nat}
    (h : ∀ i, i < n → Memory.read m' i = Memory.read m i) :
    Memory.unitReadBytes m' n = Memory.unitReadBytes m n :=
  List.map_congr_left fun i hi => Memory.unitRead_congr (h i (List.mem_range.mp hi))

/-! The canonical form. -/

@[simp] theorem Memory.wf_nil (size : Nat) : Memory.wf size [] = true := rfl

theorem Memory.write_risesFrom {size : Nat} (m : Memory) {lo a : Nat} (b : Byte)
    (h : Memory.risesFrom size lo m = true) (hlo : lo ≤ a) (ha : a < size) :
    Memory.risesFrom size lo (Memory.write m a b) = true := by
  induction m generalizing lo with
  | nil => simp [Memory.write, Memory.risesFrom, hlo, ha]
  | cons c m ih =>
    obtain ⟨k, v⟩ := c
    simp only [Memory.risesFrom, Bool.and_eq_true, decide_eq_true_eq] at h
    simp only [Memory.write]
    split
    · simp only [Memory.risesFrom, Bool.and_eq_true, decide_eq_true_eq]
      exact ⟨⟨hlo, ha⟩, ⟨by omega, h.1.2⟩, h.2⟩
    · split
      · subst_vars
        simp only [Memory.risesFrom, Bool.and_eq_true, decide_eq_true_eq]
        exact ⟨h.1, h.2⟩
      · simp only [Memory.risesFrom, Bool.and_eq_true, decide_eq_true_eq]
        exact ⟨h.1, ih h.2 (by omega)⟩

/-- A write inside the space keeps the canonical form. -/
theorem Memory.write_wf {size : Nat} (m : Memory) {a : Nat} (b : Byte)
    (h : Memory.wf size m = true) (ha : a < size) : Memory.wf size (Memory.write m a b) = true :=
  Memory.write_risesFrom m b h (Nat.zero_le a) ha

/-- A run of writes inside the space keeps the canonical form. -/
theorem Memory.writeBytes_wf {size : Nat} (s : List Byte) (m : Memory) {a : Nat}
    (h : Memory.wf size m = true) (ha : a + s.length ≤ size) :
    Memory.wf size (Memory.writeBytes m a s) = true := by
  induction s generalizing m a with
  | nil => exact h
  | cons b s ih =>
    simp only [List.length_cons] at ha
    exact ih _ (Memory.write_wf m b h (by omega)) (by omega)

end Sys2Proof.Machine
end

