-- ==== Sys2Proof/Laws/State.lean ====
section
/-! SUPPORT. Each field after each named update of State, and two updates of one field in a row. -/

namespace Sys2Proof.Machine

@[simp] theorem State.setStatus_status (s : State) (v : Byte) : (s.setStatus v).status = v := rfl
@[simp] theorem State.setStatus_rxbuf (s : State) (v : Byte) : (s.setStatus v).rxbuf = s.rxbuf := rfl
@[simp] theorem State.setStatus_rxcount (s : State) (v : Byte) : (s.setStatus v).rxcount = s.rxcount := rfl
@[simp] theorem State.setStatus_txframe (s : State) (v : Byte) : (s.setStatus v).txframe = s.txframe := rfl
@[simp] theorem State.setStatus_txlen (s : State) (v : Byte) : (s.setStatus v).txlen = s.txlen := rfl
@[simp] theorem State.setStatus_phase (s : State) (v : Byte) : (s.setStatus v).phase = s.phase := rfl
@[simp] theorem State.setStatus_csumOut (s : State) (v : Byte) : (s.setStatus v).csumOut = s.csumOut := rfl
@[simp] theorem State.setStatus_payloadValid (s : State) (v : Byte) : (s.setStatus v).payloadValid = s.payloadValid := rfl
@[simp] theorem State.setStatus_plen (s : State) (v : Byte) : (s.setStatus v).plen = s.plen := rfl
@[simp] theorem State.setStatus_meas (s : State) (v : Byte) : (s.setStatus v).meas = s.meas := rfl
@[simp] theorem State.setStatus_cfg (s : State) (v : Byte) : (s.setStatus v).cfg = s.cfg := rfl
@[simp] theorem State.setStatus_inputs (s : State) (v : Byte) : (s.setStatus v).inputs = s.inputs := rfl
@[simp] theorem State.setStatus_writeAnswers (s : State) (v : Byte) : (s.setStatus v).writeAnswers = s.writeAnswers := rfl
@[simp] theorem State.setStatus_readAnswers (s : State) (v : Byte) : (s.setStatus v).readAnswers = s.readAnswers := rfl
@[simp] theorem State.setStatus_asked (s : State) (v : Byte) : (s.setStatus v).asked = s.asked := rfl
@[simp] theorem State.setStatus_setStatus (s : State) (v w : Byte) : (s.setStatus v).setStatus w = s.setStatus w := rfl

@[simp] theorem State.setRxbuf_status (s : State) (v : Memory) : (s.setRxbuf v).status = s.status := rfl
@[simp] theorem State.setRxbuf_rxbuf (s : State) (v : Memory) : (s.setRxbuf v).rxbuf = v := rfl
@[simp] theorem State.setRxbuf_rxcount (s : State) (v : Memory) : (s.setRxbuf v).rxcount = s.rxcount := rfl
@[simp] theorem State.setRxbuf_txframe (s : State) (v : Memory) : (s.setRxbuf v).txframe = s.txframe := rfl
@[simp] theorem State.setRxbuf_txlen (s : State) (v : Memory) : (s.setRxbuf v).txlen = s.txlen := rfl
@[simp] theorem State.setRxbuf_phase (s : State) (v : Memory) : (s.setRxbuf v).phase = s.phase := rfl
@[simp] theorem State.setRxbuf_csumOut (s : State) (v : Memory) : (s.setRxbuf v).csumOut = s.csumOut := rfl
@[simp] theorem State.setRxbuf_payloadValid (s : State) (v : Memory) : (s.setRxbuf v).payloadValid = s.payloadValid := rfl
@[simp] theorem State.setRxbuf_plen (s : State) (v : Memory) : (s.setRxbuf v).plen = s.plen := rfl
@[simp] theorem State.setRxbuf_meas (s : State) (v : Memory) : (s.setRxbuf v).meas = s.meas := rfl
@[simp] theorem State.setRxbuf_cfg (s : State) (v : Memory) : (s.setRxbuf v).cfg = s.cfg := rfl
@[simp] theorem State.setRxbuf_inputs (s : State) (v : Memory) : (s.setRxbuf v).inputs = s.inputs := rfl
@[simp] theorem State.setRxbuf_writeAnswers (s : State) (v : Memory) : (s.setRxbuf v).writeAnswers = s.writeAnswers := rfl
@[simp] theorem State.setRxbuf_readAnswers (s : State) (v : Memory) : (s.setRxbuf v).readAnswers = s.readAnswers := rfl
@[simp] theorem State.setRxbuf_asked (s : State) (v : Memory) : (s.setRxbuf v).asked = s.asked := rfl
@[simp] theorem State.setRxbuf_setRxbuf (s : State) (v w : Memory) : (s.setRxbuf v).setRxbuf w = s.setRxbuf w := rfl

@[simp] theorem State.setRxcount_status (s : State) (v : BitVec 4) : (s.setRxcount v).status = s.status := rfl
@[simp] theorem State.setRxcount_rxbuf (s : State) (v : BitVec 4) : (s.setRxcount v).rxbuf = s.rxbuf := rfl
@[simp] theorem State.setRxcount_rxcount (s : State) (v : BitVec 4) : (s.setRxcount v).rxcount = v := rfl
@[simp] theorem State.setRxcount_txframe (s : State) (v : BitVec 4) : (s.setRxcount v).txframe = s.txframe := rfl
@[simp] theorem State.setRxcount_txlen (s : State) (v : BitVec 4) : (s.setRxcount v).txlen = s.txlen := rfl
@[simp] theorem State.setRxcount_phase (s : State) (v : BitVec 4) : (s.setRxcount v).phase = s.phase := rfl
@[simp] theorem State.setRxcount_csumOut (s : State) (v : BitVec 4) : (s.setRxcount v).csumOut = s.csumOut := rfl
@[simp] theorem State.setRxcount_payloadValid (s : State) (v : BitVec 4) : (s.setRxcount v).payloadValid = s.payloadValid := rfl
@[simp] theorem State.setRxcount_plen (s : State) (v : BitVec 4) : (s.setRxcount v).plen = s.plen := rfl
@[simp] theorem State.setRxcount_meas (s : State) (v : BitVec 4) : (s.setRxcount v).meas = s.meas := rfl
@[simp] theorem State.setRxcount_cfg (s : State) (v : BitVec 4) : (s.setRxcount v).cfg = s.cfg := rfl
@[simp] theorem State.setRxcount_inputs (s : State) (v : BitVec 4) : (s.setRxcount v).inputs = s.inputs := rfl
@[simp] theorem State.setRxcount_writeAnswers (s : State) (v : BitVec 4) : (s.setRxcount v).writeAnswers = s.writeAnswers := rfl
@[simp] theorem State.setRxcount_readAnswers (s : State) (v : BitVec 4) : (s.setRxcount v).readAnswers = s.readAnswers := rfl
@[simp] theorem State.setRxcount_asked (s : State) (v : BitVec 4) : (s.setRxcount v).asked = s.asked := rfl
@[simp] theorem State.setRxcount_setRxcount (s : State) (v w : BitVec 4) : (s.setRxcount v).setRxcount w = s.setRxcount w := rfl

@[simp] theorem State.setTxframe_status (s : State) (v : Memory) : (s.setTxframe v).status = s.status := rfl
@[simp] theorem State.setTxframe_rxbuf (s : State) (v : Memory) : (s.setTxframe v).rxbuf = s.rxbuf := rfl
@[simp] theorem State.setTxframe_rxcount (s : State) (v : Memory) : (s.setTxframe v).rxcount = s.rxcount := rfl
@[simp] theorem State.setTxframe_txframe (s : State) (v : Memory) : (s.setTxframe v).txframe = v := rfl
@[simp] theorem State.setTxframe_txlen (s : State) (v : Memory) : (s.setTxframe v).txlen = s.txlen := rfl
@[simp] theorem State.setTxframe_phase (s : State) (v : Memory) : (s.setTxframe v).phase = s.phase := rfl
@[simp] theorem State.setTxframe_csumOut (s : State) (v : Memory) : (s.setTxframe v).csumOut = s.csumOut := rfl
@[simp] theorem State.setTxframe_payloadValid (s : State) (v : Memory) : (s.setTxframe v).payloadValid = s.payloadValid := rfl
@[simp] theorem State.setTxframe_plen (s : State) (v : Memory) : (s.setTxframe v).plen = s.plen := rfl
@[simp] theorem State.setTxframe_meas (s : State) (v : Memory) : (s.setTxframe v).meas = s.meas := rfl
@[simp] theorem State.setTxframe_cfg (s : State) (v : Memory) : (s.setTxframe v).cfg = s.cfg := rfl
@[simp] theorem State.setTxframe_inputs (s : State) (v : Memory) : (s.setTxframe v).inputs = s.inputs := rfl
@[simp] theorem State.setTxframe_writeAnswers (s : State) (v : Memory) : (s.setTxframe v).writeAnswers = s.writeAnswers := rfl
@[simp] theorem State.setTxframe_readAnswers (s : State) (v : Memory) : (s.setTxframe v).readAnswers = s.readAnswers := rfl
@[simp] theorem State.setTxframe_asked (s : State) (v : Memory) : (s.setTxframe v).asked = s.asked := rfl
@[simp] theorem State.setTxframe_setTxframe (s : State) (v w : Memory) : (s.setTxframe v).setTxframe w = s.setTxframe w := rfl

@[simp] theorem State.setTxlen_status (s : State) (v : BitVec 3) : (s.setTxlen v).status = s.status := rfl
@[simp] theorem State.setTxlen_rxbuf (s : State) (v : BitVec 3) : (s.setTxlen v).rxbuf = s.rxbuf := rfl
@[simp] theorem State.setTxlen_rxcount (s : State) (v : BitVec 3) : (s.setTxlen v).rxcount = s.rxcount := rfl
@[simp] theorem State.setTxlen_txframe (s : State) (v : BitVec 3) : (s.setTxlen v).txframe = s.txframe := rfl
@[simp] theorem State.setTxlen_txlen (s : State) (v : BitVec 3) : (s.setTxlen v).txlen = v := rfl
@[simp] theorem State.setTxlen_phase (s : State) (v : BitVec 3) : (s.setTxlen v).phase = s.phase := rfl
@[simp] theorem State.setTxlen_csumOut (s : State) (v : BitVec 3) : (s.setTxlen v).csumOut = s.csumOut := rfl
@[simp] theorem State.setTxlen_payloadValid (s : State) (v : BitVec 3) : (s.setTxlen v).payloadValid = s.payloadValid := rfl
@[simp] theorem State.setTxlen_plen (s : State) (v : BitVec 3) : (s.setTxlen v).plen = s.plen := rfl
@[simp] theorem State.setTxlen_meas (s : State) (v : BitVec 3) : (s.setTxlen v).meas = s.meas := rfl
@[simp] theorem State.setTxlen_cfg (s : State) (v : BitVec 3) : (s.setTxlen v).cfg = s.cfg := rfl
@[simp] theorem State.setTxlen_inputs (s : State) (v : BitVec 3) : (s.setTxlen v).inputs = s.inputs := rfl
@[simp] theorem State.setTxlen_writeAnswers (s : State) (v : BitVec 3) : (s.setTxlen v).writeAnswers = s.writeAnswers := rfl
@[simp] theorem State.setTxlen_readAnswers (s : State) (v : BitVec 3) : (s.setTxlen v).readAnswers = s.readAnswers := rfl
@[simp] theorem State.setTxlen_asked (s : State) (v : BitVec 3) : (s.setTxlen v).asked = s.asked := rfl
@[simp] theorem State.setTxlen_setTxlen (s : State) (v w : BitVec 3) : (s.setTxlen v).setTxlen w = s.setTxlen w := rfl

@[simp] theorem State.setPhase_status (s : State) (v : Phase) : (s.setPhase v).status = s.status := rfl
@[simp] theorem State.setPhase_rxbuf (s : State) (v : Phase) : (s.setPhase v).rxbuf = s.rxbuf := rfl
@[simp] theorem State.setPhase_rxcount (s : State) (v : Phase) : (s.setPhase v).rxcount = s.rxcount := rfl
@[simp] theorem State.setPhase_txframe (s : State) (v : Phase) : (s.setPhase v).txframe = s.txframe := rfl
@[simp] theorem State.setPhase_txlen (s : State) (v : Phase) : (s.setPhase v).txlen = s.txlen := rfl
@[simp] theorem State.setPhase_phase (s : State) (v : Phase) : (s.setPhase v).phase = v := rfl
@[simp] theorem State.setPhase_csumOut (s : State) (v : Phase) : (s.setPhase v).csumOut = s.csumOut := rfl
@[simp] theorem State.setPhase_payloadValid (s : State) (v : Phase) : (s.setPhase v).payloadValid = s.payloadValid := rfl
@[simp] theorem State.setPhase_plen (s : State) (v : Phase) : (s.setPhase v).plen = s.plen := rfl
@[simp] theorem State.setPhase_meas (s : State) (v : Phase) : (s.setPhase v).meas = s.meas := rfl
@[simp] theorem State.setPhase_cfg (s : State) (v : Phase) : (s.setPhase v).cfg = s.cfg := rfl
@[simp] theorem State.setPhase_inputs (s : State) (v : Phase) : (s.setPhase v).inputs = s.inputs := rfl
@[simp] theorem State.setPhase_writeAnswers (s : State) (v : Phase) : (s.setPhase v).writeAnswers = s.writeAnswers := rfl
@[simp] theorem State.setPhase_readAnswers (s : State) (v : Phase) : (s.setPhase v).readAnswers = s.readAnswers := rfl
@[simp] theorem State.setPhase_asked (s : State) (v : Phase) : (s.setPhase v).asked = s.asked := rfl
@[simp] theorem State.setPhase_setPhase (s : State) (v w : Phase) : (s.setPhase v).setPhase w = s.setPhase w := rfl

@[simp] theorem State.setCsumOut_status (s : State) (v : Option Byte) : (s.setCsumOut v).status = s.status := rfl
@[simp] theorem State.setCsumOut_rxbuf (s : State) (v : Option Byte) : (s.setCsumOut v).rxbuf = s.rxbuf := rfl
@[simp] theorem State.setCsumOut_rxcount (s : State) (v : Option Byte) : (s.setCsumOut v).rxcount = s.rxcount := rfl
@[simp] theorem State.setCsumOut_txframe (s : State) (v : Option Byte) : (s.setCsumOut v).txframe = s.txframe := rfl
@[simp] theorem State.setCsumOut_txlen (s : State) (v : Option Byte) : (s.setCsumOut v).txlen = s.txlen := rfl
@[simp] theorem State.setCsumOut_phase (s : State) (v : Option Byte) : (s.setCsumOut v).phase = s.phase := rfl
@[simp] theorem State.setCsumOut_csumOut (s : State) (v : Option Byte) : (s.setCsumOut v).csumOut = v := rfl
@[simp] theorem State.setCsumOut_payloadValid (s : State) (v : Option Byte) : (s.setCsumOut v).payloadValid = s.payloadValid := rfl
@[simp] theorem State.setCsumOut_plen (s : State) (v : Option Byte) : (s.setCsumOut v).plen = s.plen := rfl
@[simp] theorem State.setCsumOut_meas (s : State) (v : Option Byte) : (s.setCsumOut v).meas = s.meas := rfl
@[simp] theorem State.setCsumOut_cfg (s : State) (v : Option Byte) : (s.setCsumOut v).cfg = s.cfg := rfl
@[simp] theorem State.setCsumOut_inputs (s : State) (v : Option Byte) : (s.setCsumOut v).inputs = s.inputs := rfl
@[simp] theorem State.setCsumOut_writeAnswers (s : State) (v : Option Byte) : (s.setCsumOut v).writeAnswers = s.writeAnswers := rfl
@[simp] theorem State.setCsumOut_readAnswers (s : State) (v : Option Byte) : (s.setCsumOut v).readAnswers = s.readAnswers := rfl
@[simp] theorem State.setCsumOut_asked (s : State) (v : Option Byte) : (s.setCsumOut v).asked = s.asked := rfl
@[simp] theorem State.setCsumOut_setCsumOut (s : State) (v w : Option Byte) : (s.setCsumOut v).setCsumOut w = s.setCsumOut w := rfl

@[simp] theorem State.setPayloadValid_status (s : State) (v : Bool) : (s.setPayloadValid v).status = s.status := rfl
@[simp] theorem State.setPayloadValid_rxbuf (s : State) (v : Bool) : (s.setPayloadValid v).rxbuf = s.rxbuf := rfl
@[simp] theorem State.setPayloadValid_rxcount (s : State) (v : Bool) : (s.setPayloadValid v).rxcount = s.rxcount := rfl
@[simp] theorem State.setPayloadValid_txframe (s : State) (v : Bool) : (s.setPayloadValid v).txframe = s.txframe := rfl
@[simp] theorem State.setPayloadValid_txlen (s : State) (v : Bool) : (s.setPayloadValid v).txlen = s.txlen := rfl
@[simp] theorem State.setPayloadValid_phase (s : State) (v : Bool) : (s.setPayloadValid v).phase = s.phase := rfl
@[simp] theorem State.setPayloadValid_csumOut (s : State) (v : Bool) : (s.setPayloadValid v).csumOut = s.csumOut := rfl
@[simp] theorem State.setPayloadValid_payloadValid (s : State) (v : Bool) : (s.setPayloadValid v).payloadValid = v := rfl
@[simp] theorem State.setPayloadValid_plen (s : State) (v : Bool) : (s.setPayloadValid v).plen = s.plen := rfl
@[simp] theorem State.setPayloadValid_meas (s : State) (v : Bool) : (s.setPayloadValid v).meas = s.meas := rfl
@[simp] theorem State.setPayloadValid_cfg (s : State) (v : Bool) : (s.setPayloadValid v).cfg = s.cfg := rfl
@[simp] theorem State.setPayloadValid_inputs (s : State) (v : Bool) : (s.setPayloadValid v).inputs = s.inputs := rfl
@[simp] theorem State.setPayloadValid_writeAnswers (s : State) (v : Bool) : (s.setPayloadValid v).writeAnswers = s.writeAnswers := rfl
@[simp] theorem State.setPayloadValid_readAnswers (s : State) (v : Bool) : (s.setPayloadValid v).readAnswers = s.readAnswers := rfl
@[simp] theorem State.setPayloadValid_asked (s : State) (v : Bool) : (s.setPayloadValid v).asked = s.asked := rfl
@[simp] theorem State.setPayloadValid_setPayloadValid (s : State) (v w : Bool) : (s.setPayloadValid v).setPayloadValid w = s.setPayloadValid w := rfl

@[simp] theorem State.setPlen_status (s : State) (v : BitVec 3) : (s.setPlen v).status = s.status := rfl
@[simp] theorem State.setPlen_rxbuf (s : State) (v : BitVec 3) : (s.setPlen v).rxbuf = s.rxbuf := rfl
@[simp] theorem State.setPlen_rxcount (s : State) (v : BitVec 3) : (s.setPlen v).rxcount = s.rxcount := rfl
@[simp] theorem State.setPlen_txframe (s : State) (v : BitVec 3) : (s.setPlen v).txframe = s.txframe := rfl
@[simp] theorem State.setPlen_txlen (s : State) (v : BitVec 3) : (s.setPlen v).txlen = s.txlen := rfl
@[simp] theorem State.setPlen_phase (s : State) (v : BitVec 3) : (s.setPlen v).phase = s.phase := rfl
@[simp] theorem State.setPlen_csumOut (s : State) (v : BitVec 3) : (s.setPlen v).csumOut = s.csumOut := rfl
@[simp] theorem State.setPlen_payloadValid (s : State) (v : BitVec 3) : (s.setPlen v).payloadValid = s.payloadValid := rfl
@[simp] theorem State.setPlen_plen (s : State) (v : BitVec 3) : (s.setPlen v).plen = v := rfl
@[simp] theorem State.setPlen_meas (s : State) (v : BitVec 3) : (s.setPlen v).meas = s.meas := rfl
@[simp] theorem State.setPlen_cfg (s : State) (v : BitVec 3) : (s.setPlen v).cfg = s.cfg := rfl
@[simp] theorem State.setPlen_inputs (s : State) (v : BitVec 3) : (s.setPlen v).inputs = s.inputs := rfl
@[simp] theorem State.setPlen_writeAnswers (s : State) (v : BitVec 3) : (s.setPlen v).writeAnswers = s.writeAnswers := rfl
@[simp] theorem State.setPlen_readAnswers (s : State) (v : BitVec 3) : (s.setPlen v).readAnswers = s.readAnswers := rfl
@[simp] theorem State.setPlen_asked (s : State) (v : BitVec 3) : (s.setPlen v).asked = s.asked := rfl
@[simp] theorem State.setPlen_setPlen (s : State) (v w : BitVec 3) : (s.setPlen v).setPlen w = s.setPlen w := rfl

@[simp] theorem State.setMeas_status (s : State) (v : Option Int) : (s.setMeas v).status = s.status := rfl
@[simp] theorem State.setMeas_rxbuf (s : State) (v : Option Int) : (s.setMeas v).rxbuf = s.rxbuf := rfl
@[simp] theorem State.setMeas_rxcount (s : State) (v : Option Int) : (s.setMeas v).rxcount = s.rxcount := rfl
@[simp] theorem State.setMeas_txframe (s : State) (v : Option Int) : (s.setMeas v).txframe = s.txframe := rfl
@[simp] theorem State.setMeas_txlen (s : State) (v : Option Int) : (s.setMeas v).txlen = s.txlen := rfl
@[simp] theorem State.setMeas_phase (s : State) (v : Option Int) : (s.setMeas v).phase = s.phase := rfl
@[simp] theorem State.setMeas_csumOut (s : State) (v : Option Int) : (s.setMeas v).csumOut = s.csumOut := rfl
@[simp] theorem State.setMeas_payloadValid (s : State) (v : Option Int) : (s.setMeas v).payloadValid = s.payloadValid := rfl
@[simp] theorem State.setMeas_plen (s : State) (v : Option Int) : (s.setMeas v).plen = s.plen := rfl
@[simp] theorem State.setMeas_meas (s : State) (v : Option Int) : (s.setMeas v).meas = v := rfl
@[simp] theorem State.setMeas_cfg (s : State) (v : Option Int) : (s.setMeas v).cfg = s.cfg := rfl
@[simp] theorem State.setMeas_inputs (s : State) (v : Option Int) : (s.setMeas v).inputs = s.inputs := rfl
@[simp] theorem State.setMeas_writeAnswers (s : State) (v : Option Int) : (s.setMeas v).writeAnswers = s.writeAnswers := rfl
@[simp] theorem State.setMeas_readAnswers (s : State) (v : Option Int) : (s.setMeas v).readAnswers = s.readAnswers := rfl
@[simp] theorem State.setMeas_asked (s : State) (v : Option Int) : (s.setMeas v).asked = s.asked := rfl
@[simp] theorem State.setMeas_setMeas (s : State) (v w : Option Int) : (s.setMeas v).setMeas w = s.setMeas w := rfl

@[simp] theorem State.setInputs_status (s : State) (v : List Input) : (s.setInputs v).status = s.status := rfl
@[simp] theorem State.setInputs_rxbuf (s : State) (v : List Input) : (s.setInputs v).rxbuf = s.rxbuf := rfl
@[simp] theorem State.setInputs_rxcount (s : State) (v : List Input) : (s.setInputs v).rxcount = s.rxcount := rfl
@[simp] theorem State.setInputs_txframe (s : State) (v : List Input) : (s.setInputs v).txframe = s.txframe := rfl
@[simp] theorem State.setInputs_txlen (s : State) (v : List Input) : (s.setInputs v).txlen = s.txlen := rfl
@[simp] theorem State.setInputs_phase (s : State) (v : List Input) : (s.setInputs v).phase = s.phase := rfl
@[simp] theorem State.setInputs_csumOut (s : State) (v : List Input) : (s.setInputs v).csumOut = s.csumOut := rfl
@[simp] theorem State.setInputs_payloadValid (s : State) (v : List Input) : (s.setInputs v).payloadValid = s.payloadValid := rfl
@[simp] theorem State.setInputs_plen (s : State) (v : List Input) : (s.setInputs v).plen = s.plen := rfl
@[simp] theorem State.setInputs_meas (s : State) (v : List Input) : (s.setInputs v).meas = s.meas := rfl
@[simp] theorem State.setInputs_cfg (s : State) (v : List Input) : (s.setInputs v).cfg = s.cfg := rfl
@[simp] theorem State.setInputs_inputs (s : State) (v : List Input) : (s.setInputs v).inputs = v := rfl
@[simp] theorem State.setInputs_writeAnswers (s : State) (v : List Input) : (s.setInputs v).writeAnswers = s.writeAnswers := rfl
@[simp] theorem State.setInputs_readAnswers (s : State) (v : List Input) : (s.setInputs v).readAnswers = s.readAnswers := rfl
@[simp] theorem State.setInputs_asked (s : State) (v : List Input) : (s.setInputs v).asked = s.asked := rfl
@[simp] theorem State.setInputs_setInputs (s : State) (v w : List Input) : (s.setInputs v).setInputs w = s.setInputs w := rfl

@[simp] theorem State.setWriteAnswers_status (s : State) (v : List WriteAnswer) : (s.setWriteAnswers v).status = s.status := rfl
@[simp] theorem State.setWriteAnswers_rxbuf (s : State) (v : List WriteAnswer) : (s.setWriteAnswers v).rxbuf = s.rxbuf := rfl
@[simp] theorem State.setWriteAnswers_rxcount (s : State) (v : List WriteAnswer) : (s.setWriteAnswers v).rxcount = s.rxcount := rfl
@[simp] theorem State.setWriteAnswers_txframe (s : State) (v : List WriteAnswer) : (s.setWriteAnswers v).txframe = s.txframe := rfl
@[simp] theorem State.setWriteAnswers_txlen (s : State) (v : List WriteAnswer) : (s.setWriteAnswers v).txlen = s.txlen := rfl
@[simp] theorem State.setWriteAnswers_phase (s : State) (v : List WriteAnswer) : (s.setWriteAnswers v).phase = s.phase := rfl
@[simp] theorem State.setWriteAnswers_csumOut (s : State) (v : List WriteAnswer) : (s.setWriteAnswers v).csumOut = s.csumOut := rfl
@[simp] theorem State.setWriteAnswers_payloadValid (s : State) (v : List WriteAnswer) : (s.setWriteAnswers v).payloadValid = s.payloadValid := rfl
@[simp] theorem State.setWriteAnswers_plen (s : State) (v : List WriteAnswer) : (s.setWriteAnswers v).plen = s.plen := rfl
@[simp] theorem State.setWriteAnswers_meas (s : State) (v : List WriteAnswer) : (s.setWriteAnswers v).meas = s.meas := rfl
@[simp] theorem State.setWriteAnswers_cfg (s : State) (v : List WriteAnswer) : (s.setWriteAnswers v).cfg = s.cfg := rfl
@[simp] theorem State.setWriteAnswers_inputs (s : State) (v : List WriteAnswer) : (s.setWriteAnswers v).inputs = s.inputs := rfl
@[simp] theorem State.setWriteAnswers_writeAnswers (s : State) (v : List WriteAnswer) : (s.setWriteAnswers v).writeAnswers = v := rfl
@[simp] theorem State.setWriteAnswers_readAnswers (s : State) (v : List WriteAnswer) : (s.setWriteAnswers v).readAnswers = s.readAnswers := rfl
@[simp] theorem State.setWriteAnswers_asked (s : State) (v : List WriteAnswer) : (s.setWriteAnswers v).asked = s.asked := rfl
@[simp] theorem State.setWriteAnswers_setWriteAnswers (s : State) (v w : List WriteAnswer) : (s.setWriteAnswers v).setWriteAnswers w = s.setWriteAnswers w := rfl

@[simp] theorem State.setReadAnswers_status (s : State) (v : List ReadAnswer) : (s.setReadAnswers v).status = s.status := rfl
@[simp] theorem State.setReadAnswers_rxbuf (s : State) (v : List ReadAnswer) : (s.setReadAnswers v).rxbuf = s.rxbuf := rfl
@[simp] theorem State.setReadAnswers_rxcount (s : State) (v : List ReadAnswer) : (s.setReadAnswers v).rxcount = s.rxcount := rfl
@[simp] theorem State.setReadAnswers_txframe (s : State) (v : List ReadAnswer) : (s.setReadAnswers v).txframe = s.txframe := rfl
@[simp] theorem State.setReadAnswers_txlen (s : State) (v : List ReadAnswer) : (s.setReadAnswers v).txlen = s.txlen := rfl
@[simp] theorem State.setReadAnswers_phase (s : State) (v : List ReadAnswer) : (s.setReadAnswers v).phase = s.phase := rfl
@[simp] theorem State.setReadAnswers_csumOut (s : State) (v : List ReadAnswer) : (s.setReadAnswers v).csumOut = s.csumOut := rfl
@[simp] theorem State.setReadAnswers_payloadValid (s : State) (v : List ReadAnswer) : (s.setReadAnswers v).payloadValid = s.payloadValid := rfl
@[simp] theorem State.setReadAnswers_plen (s : State) (v : List ReadAnswer) : (s.setReadAnswers v).plen = s.plen := rfl
@[simp] theorem State.setReadAnswers_meas (s : State) (v : List ReadAnswer) : (s.setReadAnswers v).meas = s.meas := rfl
@[simp] theorem State.setReadAnswers_cfg (s : State) (v : List ReadAnswer) : (s.setReadAnswers v).cfg = s.cfg := rfl
@[simp] theorem State.setReadAnswers_inputs (s : State) (v : List ReadAnswer) : (s.setReadAnswers v).inputs = s.inputs := rfl
@[simp] theorem State.setReadAnswers_writeAnswers (s : State) (v : List ReadAnswer) : (s.setReadAnswers v).writeAnswers = s.writeAnswers := rfl
@[simp] theorem State.setReadAnswers_readAnswers (s : State) (v : List ReadAnswer) : (s.setReadAnswers v).readAnswers = v := rfl
@[simp] theorem State.setReadAnswers_asked (s : State) (v : List ReadAnswer) : (s.setReadAnswers v).asked = s.asked := rfl
@[simp] theorem State.setReadAnswers_setReadAnswers (s : State) (v w : List ReadAnswer) : (s.setReadAnswers v).setReadAnswers w = s.setReadAnswers w := rfl

@[simp] theorem State.setAsked_status (s : State) (v : List Question) : (s.setAsked v).status = s.status := rfl
@[simp] theorem State.setAsked_rxbuf (s : State) (v : List Question) : (s.setAsked v).rxbuf = s.rxbuf := rfl
@[simp] theorem State.setAsked_rxcount (s : State) (v : List Question) : (s.setAsked v).rxcount = s.rxcount := rfl
@[simp] theorem State.setAsked_txframe (s : State) (v : List Question) : (s.setAsked v).txframe = s.txframe := rfl
@[simp] theorem State.setAsked_txlen (s : State) (v : List Question) : (s.setAsked v).txlen = s.txlen := rfl
@[simp] theorem State.setAsked_phase (s : State) (v : List Question) : (s.setAsked v).phase = s.phase := rfl
@[simp] theorem State.setAsked_csumOut (s : State) (v : List Question) : (s.setAsked v).csumOut = s.csumOut := rfl
@[simp] theorem State.setAsked_payloadValid (s : State) (v : List Question) : (s.setAsked v).payloadValid = s.payloadValid := rfl
@[simp] theorem State.setAsked_plen (s : State) (v : List Question) : (s.setAsked v).plen = s.plen := rfl
@[simp] theorem State.setAsked_meas (s : State) (v : List Question) : (s.setAsked v).meas = s.meas := rfl
@[simp] theorem State.setAsked_cfg (s : State) (v : List Question) : (s.setAsked v).cfg = s.cfg := rfl
@[simp] theorem State.setAsked_inputs (s : State) (v : List Question) : (s.setAsked v).inputs = s.inputs := rfl
@[simp] theorem State.setAsked_writeAnswers (s : State) (v : List Question) : (s.setAsked v).writeAnswers = s.writeAnswers := rfl
@[simp] theorem State.setAsked_readAnswers (s : State) (v : List Question) : (s.setAsked v).readAnswers = s.readAnswers := rfl
@[simp] theorem State.setAsked_asked (s : State) (v : List Question) : (s.setAsked v).asked = v := rfl
@[simp] theorem State.setAsked_setAsked (s : State) (v w : List Question) : (s.setAsked v).setAsked w = s.setAsked w := rfl

end Sys2Proof.Machine
end

