-- ==== Sys2Proof/Laws/Ops.lean ====
section
/-! SUPPORT. For each shared operation, everything it does, said once. -/

namespace Sys2Proof.Machine

theorem complete_spec (s : State) : complete s = { s with status := statusOk } := rfl

theorem raise_spec (e : RequestError) (s : State) : raise e s = { s with status := statusOfError e } := rfl

theorem clearPayload_spec (s : State) : clearPayload s = { s with payloadValid := false, plen := 0 } := rfl

theorem acceptPayload_spec (plen : Nat) (s : State) :
    acceptPayload plen s = { s with payloadValid := true, plen := BitVec.ofNat 3 plen } := rfl

theorem loadBytes_spec (d : List Byte) (s : State) :
    loadBytes d s = { s with
      rxbuf := Memory.writeBytes s.rxbuf 0 d, rxcount := BitVec.ofNat 4 d.length } := rfl

theorem putFrame_spec (frame : List Byte) (s : State) :
    putFrame frame s = { s with txframe := Memory.writeBytes s.txframe 0 frame, txlen := BitVec.ofNat 3 s.cfg.cmdFrameBytes } := rfl

theorem askWrite_spec (frame : List Byte) (s : State) :
    askWrite frame s = { s with
      writeAnswers := s.writeAnswers.tail, asked := s.asked ++ [.write frame] } := rfl

theorem askRead_spec (s : State) :
    askRead s = { s with readAnswers := s.readAnswers.tail, asked := s.asked ++ [.read] } := rfl

theorem resetBlock_spec (s : State) :
    resetBlock s = { State.reset with
      cfg := s.cfg, inputs := s.inputs, writeAnswers := s.writeAnswers, readAnswers := s.readAnswers,
      asked := s.asked } := rfl

theorem packCommand_spec (cmd : Command) (s : State) :
    packCommand cmd s = { s with
      txframe := Memory.writeBytes s.txframe 0 (commandFrame s.cfg cmd),
      txlen := BitVec.ofNat 3 s.cfg.cmdFrameBytes, status := statusOk } := rfl

theorem loadReceived_spec (d : List Byte) (s : State) :
    loadReceived d s = { s with
      rxbuf := Memory.writeBytes s.rxbuf 0 d, rxcount := BitVec.ofNat 4 d.length, payloadValid := false, plen := 0,
      status := statusOk } := rfl

/-- VERIFY of a frame writes STATUS and nothing else. -/
theorem verifyBytes_spec (f : List Byte) (s : State) :
    verifyBytes f s = { s with
      status :=
        if f.length = 0 then statusOfError .malformed
        else if checksumValid s.cfg f then statusOk else statusOfError .checksumMismatch } := by
  unfold verifyBytes
  split
  · rfl
  · split <;> rfl

theorem validateBytes_accepted {f : List Byte} {plen : Nat} {s : State}
    (h : validateFrame s.cfg f = .accepted plen) :
    validateBytes f s = { s with
      payloadValid := true, plen := BitVec.ofNat 3 plen, status := statusOk } := by
  simp only [validateBytes, h]
  rfl

theorem validateBytes_rejected {f : List Byte} {e : RequestError} {s : State}
    (h : validateFrame s.cfg f = .rejected e) :
    validateBytes f s = { s with payloadValid := false, plen := 0, status := statusOfError e } := by
  simp only [validateBytes, h]
  rfl

/-- DECODE writes MEAS and STATUS, and nothing else. -/
theorem decodeChecked_spec (hi lo : Byte) (s : State) :
    decodeChecked hi lo s = { s with
      meas :=
        if !s.payloadValid then none else if s.plen.toNat < 2 then none else some (measurementOf s.cfg hi lo),
      status :=
        if !s.payloadValid then statusOfError .unchecked
        else if s.plen.toNat < 2 then statusOfError .malformed else statusOk } := by
  by_cases hv : s.payloadValid = true
  · by_cases h : s.plen.toNat < 2 <;>
      simp [decodeChecked, decodePayload, hv, h, raise_spec, complete_spec, State.setMeas]
  · simp [decodeChecked, hv, raise_spec, State.setMeas]

/-- The frame in the buffer is the bytes below RXCOUNT, where each of them holds a value. -/
theorem frameInBuffer_eq {s : State} {f : List Byte} (hl : f.length = s.rxcount.toNat)
    (hr : ∀ i, i < s.rxcount.toNat → Memory.read s.rxbuf i = f[i]?) : frameInBuffer s = f :=
  Memory.unitReadBytes_eq hl hr

/-- RXCOUNT counts up to 15 bytes. -/
theorem rxcount_toNat {n : Nat} (h : n ≤ 15) : (BitVec.ofNat 4 n).toNat = n := by
  simp only [BitVec.toNat_ofNat]
  omega

/-- After bytes that RXCOUNT can count are loaded, they are the frame in the buffer. -/
theorem frameInBuffer_loadBytes (d : List Byte) (s : State) (h : d.length ≤ 15) :
    frameInBuffer (loadBytes d s) = d := by
  refine frameInBuffer_eq (rxcount_toNat h).symm fun i hi => ?_
  have hd : i < d.length := by simpa [loadBytes_spec, rxcount_toNat h] using hi
  have := Memory.read_writeBytes_inside d s.rxbuf (a := 0) hd
  rwa [Nat.zero_add] at this

/-- A read delivers at most RXBUF_SIZE bytes (44_transaction.md R196). -/
theorem readAnswerFrom_length {size n : Nat} {answers : List ReadAnswer} {d : List Byte}
    (h : readAnswerFrom size answers n = .data d) : d.length ≤ size := by
  have fit : ∀ a : ReadAnswer, fitAnswer size a = .data d → d.length ≤ size := by
    intro a ha
    cases a with
    | timeout => cases ha
    | data e =>
      cases ha
      simp
  cases answers <;> exact fit _ h

/-- Every answer of the set R196 lists is left as it is. -/
theorem fitAnswer_data {size : Nat} {d : List Byte} (h : d.length ≤ size) : fitAnswer size (.data d) = .data d := by
  simp [fitAnswer, List.take_of_length_le h]

/-! The phases of READMEAS, one lemma for each way a phase goes on. -/

/-- The DECODE phase writes MEAS, STATUS and the phase, and nothing else. -/
theorem decodePhase_spec (s : State) :
    decodePhase s = { s with
      meas := if s.plen.toNat < 2 then s.meas else some (measurementOf s.cfg (payloadHigh s) (payloadLow s)),
      status := if s.plen.toNat < 2 then statusOfError .malformed else statusOk,
      phase := .idle } := by
  by_cases h : s.plen.toNat < 2 <;>
    simp [decodePhase, decodePayload, h, raise_spec, complete_spec, endExchange, State.setMeas, State.setPhase]

theorem validatePhase_rejected {e : RequestError} (s : State)
    (h : validateFrame s.cfg (frameInBuffer s) = .rejected e) :
    validatePhase s = { s with status := statusOfError e, phase := .idle } := by
  simp [validatePhase, h, raise_spec, endExchange, State.setPhase]

theorem validatePhase_accepted {plen : Nat} (s : State)
    (h : validateFrame s.cfg (frameInBuffer s) = .accepted plen) :
    validatePhase s = decodePhase (acceptPayload plen (s.setPhase .validate)) := by
  simp [validatePhase, h]

theorem readPhase_timeout (s : State) (h : readAnswer s = .timeout) :
    readPhase s = { askRead s with
      rxcount := 0, status := statusOfError (.transportError .timeout), phase := .idle } := by
  have h' : readAnswer (s.setPhase .read) = .timeout := h
  simp only [readPhase, h']
  rfl

theorem readPhase_noResponse (s : State) (h : readAnswer s = .data []) :
    readPhase s = { askRead s with
      rxcount := 0, status := statusOfError (.transportError .noResponse), phase := .idle } := by
  have h' : readAnswer (s.setPhase .read) = .data [] := h
  simp only [readPhase, h']
  rfl

theorem readPhase_data (s : State) {d : List Byte} (h : readAnswer s = .data d) (hd : d ≠ []) :
    readPhase s = validatePhase (loadBytes d (askRead (s.setPhase .read))) := by
  have h' : readAnswer (s.setPhase .read) = .data d := h
  obtain ⟨b, rest, rfl⟩ := List.exists_cons_of_ne_nil hd
  simp only [readPhase, h']

theorem writePhase_fail (frame : List Byte) (s : State) (h : writeAnswer s = .fail) :
    writePhase frame s = { askWrite frame s with
      rxcount := 0, status := statusOfError (.transportError .writeFailed), phase := .idle } := by
  have h' : writeAnswer (s.setPhase .write) = .fail := h
  simp only [writePhase, h']
  rfl

theorem writePhase_ok (frame : List Byte) (s : State) (h : writeAnswer s = .ok) :
    writePhase frame s = readPhase (askWrite frame (s.setPhase .write)) := by
  have h' : writeAnswer (s.setPhase .write) = .ok := h
  simp only [writePhase, h']

end Sys2Proof.Machine
end

