-- ==== Sys2Proof/Laws/PerInstr.lean ====
section
/-! SUPPORT. Statements about every instruction as syntax, one lemma for each constructor. -/

namespace Sys2Proof.Laws

/-- The number of bytes the spec gives each row: 2 + N with an operand block, 1 without (30_encoding.md R60),
4 for a command frame (30_encoding.md R66). -/
def encodedLength : Instr → Nat
  | .csum data => 2 + data.length
  | .verify => 1
  | .pack _ => 1
  | .rxload data => 2 + data.length
  | .validate => 1
  | .decode => 1
  | .readmeas => 1
  | .cmdframeReadMeasure => 4
  | .cmdframeCalibration => 4
  | .cmdframeAbcParameterCheck => 4
  | .cmdframeAbcParameterSet => 4

/-- The encoder gives an instruction as many bytes as the spec. -/
def EncodedLength.Statement (i : Instr) : Prop :=
  ∀ cfg : Config, (encode cfg i).length = encodedLength i

theorem EncodedLength.csum (data : List Byte) : EncodedLength.Statement (.csum data) := fun _ => by
  simp [encode, encodedLength]
  omega

theorem EncodedLength.verify : EncodedLength.Statement .verify := fun _ => rfl

theorem EncodedLength.pack (cmd : Command) : EncodedLength.Statement (.pack cmd) := fun _ => rfl

theorem EncodedLength.rxload (data : List Byte) : EncodedLength.Statement (.rxload data) := fun _ => by
  simp [encode, encodedLength]
  omega

theorem EncodedLength.validate : EncodedLength.Statement .validate := fun _ => rfl

theorem EncodedLength.decode : EncodedLength.Statement .decode := fun _ => rfl

theorem EncodedLength.readmeas : EncodedLength.Statement .readmeas := fun _ => rfl

theorem EncodedLength.cmdframeReadMeasure : EncodedLength.Statement .cmdframeReadMeasure := fun _ => rfl

theorem EncodedLength.cmdframeCalibration : EncodedLength.Statement .cmdframeCalibration := fun _ => rfl

theorem EncodedLength.cmdframeAbcParameterCheck : EncodedLength.Statement .cmdframeAbcParameterCheck :=
  fun _ => rfl

theorem EncodedLength.cmdframeAbcParameterSet : EncodedLength.Statement .cmdframeAbcParameterSet :=
  fun _ => rfl

end Sys2Proof.Laws
end

