-- ==== Sys2Proof/Laws/Step.lean ====
section
/-! SUPPORT. What the decoder and the step can do, said once. -/

namespace Sys2Proof

/-- The fields of a control byte are the ones it was built from. -/
theorem ctrlByte_fields (op : BitVec 3) (cmd : BitVec 2) :
    ctrlOp (ctrlByte op cmd) = op ∧ ctrlCmd (ctrlByte op cmd) = cmd ∧ ctrlRsv (ctrlByte op cmd) = 0 := by
  revert op cmd
  decide

/-- A control byte whose RSV is 0 is built from its other two fields. -/
theorem ctrlByte_of_fields (ctrl : Byte) (h : ctrlRsv ctrl = 0) :
    ctrlByte (ctrlOp ctrl) (ctrlCmd ctrl) = ctrl := by
  revert ctrl
  decide

@[simp] theorem commandOfField_commandField (cmd : Command) : commandOfField (commandField cmd) = cmd := by
  cases cmd <;> rfl

@[simp] theorem commandField_commandOfField (cmd : BitVec 2) : commandField (commandOfField cmd) = cmd := by
  revert cmd
  decide

namespace Machine

@[simp] theorem readyForHost_iff (s : State) : readyForHost s = true ↔ s.phase = .idle := by
  simp [readyForHost]

theorem step_noInput {s : State} (h : s.inputs = []) : step s = .next s := by
  simp [step, h]

theorem step_reset {s : State} {rest : List Input} (h : s.inputs = .reset :: rest) :
    step s = .next (resetBlock (s.setInputs rest)) := by
  simp [step, h]

theorem step_readReg {s : State} {reg : HostReg} {rest : List Input} (h : s.inputs = .readReg reg :: rest)
    (hp : s.phase = .idle) : step s = hostReadMove reg (s.setInputs rest) := by
  simp [step, h, hp]

theorem step_issue {s : State} {fmt : Format} {bytes : List Byte} {rest : List Input}
    (h : s.inputs = .issue fmt bytes :: rest) (hp : s.phase = .idle) :
    step s =
      match decodeBytes s.cfg fmt bytes with
      | .instr i => exec i (s.setInputs rest)
      | .illegal why => illegalRequest why (s.setInputs rest)
      | .noRequest why => .refused (.notARequest why) := by
  unfold step
  rw [h]
  exact if_pos (by simp [hp])

/-- A host read leaves the state as it was, where it is not a fault. -/
theorem hostReadMove_next {reg : HostReg} {s t : State} (h : hostReadMove reg s = .next t) : t = s := by
  unfold hostReadMove at h
  split at h <;> cases h
  rfl

/-- Everything a step can do that gives a next state: nothing, a reset, a register read, an instruction, or an
illegal request. -/
theorem step_next {s t : State} (h : step s = .next t) :
    (s.inputs = [] ∧ t = s) ∨
    (∃ rest, s.inputs = .reset :: rest ∧ t = resetBlock (s.setInputs rest)) ∨
    (∃ reg rest, s.inputs = .readReg reg :: rest ∧ s.phase = .idle ∧ t = s.setInputs rest) ∨
    (∃ fmt bytes rest i, s.inputs = .issue fmt bytes :: rest ∧ s.phase = .idle ∧
      decodeBytes s.cfg fmt bytes = .instr i ∧ exec i (s.setInputs rest) = .next t) ∨
    (∃ fmt bytes rest why, s.inputs = .issue fmt bytes :: rest ∧ s.phase = .idle ∧
      decodeBytes s.cfg fmt bytes = .illegal why ∧ t = raise .illegalOp (s.setInputs rest)) := by
  cases hi : s.inputs with
  | nil =>
    rw [step_noInput hi] at h
    cases h
    exact .inl ⟨rfl, rfl⟩
  | cons move rest =>
    cases move with
    | reset =>
      rw [step_reset hi] at h
      cases h
      exact .inr (.inl ⟨rest, rfl, rfl⟩)
    | readReg reg =>
      by_cases hp : s.phase = .idle
      · rw [step_readReg hi hp] at h
        exact .inr (.inr (.inl ⟨reg, rest, rfl, hp, hostReadMove_next h⟩))
      · simp [step, hi, hp] at h
    | issue fmt bytes =>
      by_cases hp : s.phase = .idle
      · rw [step_issue hi hp] at h
        cases hd : decodeBytes s.cfg fmt bytes with
        | instr i =>
          simp only [hd] at h
          exact .inr (.inr (.inr (.inl ⟨fmt, bytes, rest, i, rfl, hp, hd, h⟩)))
        | illegal why =>
          simp only [hd, illegalRequest] at h
          cases h
          exact .inr (.inr (.inr (.inr ⟨fmt, bytes, rest, why, rfl, hp, hd, rfl⟩)))
        | noRequest why =>
          simp [hd] at h
      · simp [step, hi, hp] at h

end Machine

end Sys2Proof
end

