-- ==== Sys2Proof/Tests/Slice0.lean ====
section
/-! SUPPORT. The model's own tests: the WellFormed smoke, words written out from the spec's encoding, vectors of
95_test_vectors.md, and for each statement with hypotheses a state and operands that meet them. -/

namespace Sys2Proof.Tests

open Sys2Proof.Machine

/-! Helpers. -/

/-- The next state of an outcome, if it has one. -/
def nextOf (o : Host.Outcome State Fault Refusal) : Option State :=
  match o with
  | .next t => some t
  | .fault _ => none
  | .refused _ => none

/-- The bytes `d` loaded into a block that was just reset. -/
def received (d : List Byte) : State :=
  loadReceived d State.reset

/-- The bytes `d` loaded and validated. -/
def validated (d : List Byte) : State :=
  validateBytes d (received d)

/-- A block just reset whose transport will answer the write with `w` and the read with `r`. -/
def awaiting (w : WriteAnswer) (r : ReadAnswer) : State :=
  (State.reset.setWriteAnswers [w]).setReadAnswers [r]

/-- A block just reset whose host's next move is `m`. -/
def asking (m : Input) : State :=
  State.reset.setInputs [m]

/-- The 800 ppm frame of 95_test_vectors.md E3. -/
def ppm800 : List Byte := [0x16, 0x03, 0x01, 0x03, 0x20, 0xC3]

/-- The 600 ppm frame of 95_test_vectors.md V-V11, which fills the buffer. -/
def ppm600 : List Byte := [0x16, 0x05, 0x01, 0x02, 0x58, 0x00, 0x00, 0x8A]

/-! WellFormed: an ill-formed term for each check. -/

theorem test_wf_refuses_csum_of_256_bytes : (Instr.csum (List.replicate 256 0)).wellFormed {} = false := by
  simp [Instr.wellFormed, -List.reduceReplicate]
theorem test_wf_admits_csum_of_255_bytes : (Instr.csum (List.replicate 255 0)).wellFormed {} = true := by
  simp [Instr.wellFormed, -List.reduceReplicate]
theorem test_wf_refuses_rxload_of_9_bytes : (Instr.rxload (List.replicate 9 0)).wellFormed {} = false := by decide
theorem test_wf_admits_rxload_of_8_bytes : (Instr.rxload (List.replicate 8 0)).wellFormed {} = true := by decide
theorem test_wf_refuses_equal_opcodes :
    ({ opcAbcSet := 0x03 } : Config).opcodesDistinct = false := by decide
theorem test_wf_refuses_a_buffer_rxcount_cannot_count : ({ rxbufSize := 16 } : Config).sized = false := by decide
theorem test_wf_refuses_csum_above_its_parameter :
    (Instr.csum [0x01, 0x02, 0x03]).wellFormed { csumMaxLen := 2 } = false := by decide

/-! Decoding: words written out from 30_encoding.md R61, R62, R63 and R67. -/

theorem test_decode_csum : decodeRequest {} [0x00, 0x02, 0xFF, 0x01] = .instr (.csum [0xFF, 0x01]) := by decide
theorem test_decode_verify : decodeRequest {} [0b000_00_001] = .instr .verify := by decide
theorem test_decode_pack_readMeasure : decodeRequest {} [0b000_00_010] = .instr (.pack .readMeasure) := by decide
theorem test_decode_pack_calibration : decodeRequest {} [0b000_01_010] = .instr (.pack .calibration) := by decide
theorem test_decode_pack_abcCheck : decodeRequest {} [0b000_10_010] = .instr (.pack .abcParameterCheck) := by decide
theorem test_decode_pack_abcSet : decodeRequest {} [0b000_11_010] = .instr (.pack .abcParameterSet) := by decide
theorem test_decode_rxload :
    decodeRequest {} [0x03, 0x04, 0x11, 0x01, 0x01, 0xED] = .instr (.rxload [0x11, 0x01, 0x01, 0xED]) := by decide
theorem test_decode_validate : decodeRequest {} [0b000_00_100] = .instr .validate := by decide
theorem test_decode_decode : decodeRequest {} [0b000_00_101] = .instr .decode := by decide
theorem test_decode_readmeas : decodeRequest {} [0b000_00_110] = .instr .readmeas := by decide
theorem test_decode_frame_readMeasure :
    decodeBytes {} .cmdframe32 [0x11, 0x01, 0x01, 0xED] = .instr .cmdframeReadMeasure := by decide
theorem test_decode_frame_calibration :
    decodeBytes {} .cmdframe32 [0x11, 0x01, 0x03, 0xEB] = .instr .cmdframeCalibration := by decide
theorem test_decode_frame_abcCheck :
    decodeBytes {} .cmdframe32 [0x11, 0x01, 0x0F, 0xDF] = .instr .cmdframeAbcParameterCheck := by decide
theorem test_decode_frame_abcSet :
    decodeBytes {} .cmdframe32 [0x11, 0x01, 0x10, 0xDE] = .instr .cmdframeAbcParameterSet := by decide

/-- V-I1 to V-I4, and V-R3: illegal requests. -/
theorem test_decode_illegal :
    decodeRequest {} [0x07] = .illegal .opReserved ∧ decodeRequest {} [0x0B] = .illegal .cmdNonzero ∧
    decodeRequest {} [0x21] = .illegal .rsvNonzero ∧ decodeRequest {} [0x0E] = .illegal .cmdNonzero ∧
    decodeRequest {} [0x03, 0x09] = .illegal .rxloadTooLong := by decide

/-- The same bytes are a command frame on one channel and an illegal request on the other. -/
theorem test_decode_frame_is_no_request :
    decodeBytes {} .ctrl8 [0x11, 0x01, 0x01, 0xED] = .illegal .cmdNonzero := by decide

theorem test_decode_no_request :
    decodeRequest {} [] = .noRequest .empty ∧ decodeRequest {} [0x00] = .noRequest .noCount ∧
    decodeRequest {} [0x03, 0x02, 0xAA] = .noRequest .wrongCount ∧
    decodeRequest {} [0x01, 0x00] = .noRequest .trailing ∧
    decodeBytes {} .cmdframe32 [0x11, 0x01, 0x02, 0xEC] = .noRequest .noCommandFrame := by decide

/-! Instructions: the vectors of 95_test_vectors.md. -/

/-- V-C6 and V-C9. -/
theorem test_csum_wraps :
    (nextOf (exec (.csum [0xFF, 0x01]) State.reset)).map (·.csumOut) = some (some 0x00) := by decide
theorem test_csum_frame :
    (nextOf (exec (.csum [0x16, 0x03, 0x01, 0x03, 0x20]) State.reset)).map (·.csumOut) = some (some 0xC3) := by decide

/-- V-C11 and V-C13. -/
theorem test_verify_mismatch :
    (nextOf (exec .verify (received [0x16, 0x03, 0x01, 0x03, 0x20, 0xC4]))).map (·.status) = some 0x01 := by decide
theorem test_verify_single_zero :
    (nextOf (exec .verify (received [0x00]))).map (·.status) = some 0x00 := by decide

/-- V-P3. -/
theorem test_pack_abcCheck :
    (nextOf (exec (.pack .abcParameterCheck) State.reset)).map (fun t => (t.txframe, t.txlen)) =
      some ([(0, 0x11), (1, 0x01), (2, 0x0F), (3, 0xDF)], 4) := by decide

/-- V-R2: a short load keeps the stale tail and MEAS. -/
theorem test_rxload_keeps_stale_tail :
    (nextOf (exec (.rxload ppm800) ((validated ppm600).setMeas (some 600)))).map
      (fun t => (t.rxbuf.map (·.2), t.rxcount, t.payloadValid, t.meas)) =
      some ([0x16, 0x03, 0x01, 0x03, 0x20, 0xC3, 0x00, 0x8A], 6, false, some 600) := by decide

/-- V-V15 and V-V18. -/
theorem test_validate_checksum_first :
    (nextOf (exec .validate (received [0x16, 0x09, 0x01, 0x03, 0x20, 0x00]))).map
      (fun t => (t.status, t.payloadValid)) = some (0x01, false) := by decide
theorem test_validate_zero_checksum :
    (nextOf (exec .validate (received [0xFF, 0x01, 0x00, 0x00]))).map
      (fun t => (t.status, t.payloadValid, t.plen)) = some (0x00, true, 0) := by decide

/-- V-D5 and V-D8. -/
theorem test_decode_is_unsigned :
    (nextOf (exec .decode (validated [0x16, 0x03, 0x01, 0x80, 0x00, 0x66]))).map (·.meas) =
      some (some 32768) := by decide
theorem test_decode_short_payload :
    (nextOf (exec .decode (validated [0x16, 0x02, 0x01, 0x07, 0xE0]))).map (fun t => (t.status, t.meas)) =
      some (0x02, none) := by decide

/-- 92_eei_decisions.md D9: in a 16-bit MEAS the same bytes would be a negative number. -/
theorem test_decode_in_16_bits_is_signed :
    measurementOf { measBits := 16 } 0x80 0x00 = -32768 := by decide

/-- A read of more bytes than the buffer holds is no answer of 44_transaction.md R196: it is cut to the buffer. -/
theorem test_read_answer_fits_the_buffer :
    readAnswerFrom 2 [.data [0x01, 0x02, 0x03]] 0 = .data [0x01, 0x02] := by decide

/-- V-T4 and V-T6: a short read over a longer frame, and a measurement. -/
theorem test_readmeas_short_read :
    (nextOf (exec .readmeas (((validated ppm600).setWriteAnswers [.ok]).setReadAnswers
      [.data [0x16, 0x03, 0x01]]))).map (fun t => (t.status, t.rxbuf.map (·.2), t.meas)) =
      some (0x01, [0x16, 0x03, 0x01, 0x02, 0x58, 0x00, 0x00, 0x8A], none) := by decide
theorem test_readmeas_measures :
    (nextOf (exec .readmeas (awaiting .ok (.data ppm800)))).map
      (fun t => (t.status, t.meas, t.plen, t.asked)) =
      some (0x00, some 800, 2, [.write [0x11, 0x01, 0x01, 0xED], .read]) := by decide

/-- 30_encoding.md R67, as a step of the machine from reset. -/
theorem test_frame_readMeasure_runs :
    (nextOf (step (State.reset.withFetchWord 32 0x110101ED))).map (fun t => t.txframe.map (·.2)) =
      some [0x11, 0x01, 0x01, 0xED] := by decide
theorem test_frame_calibration_runs :
    (nextOf (step (State.reset.withFetchWord 32 0x110103EB))).map (fun t => t.txframe.map (·.2)) =
      some [0x11, 0x01, 0x03, 0xEB] := by decide
theorem test_frame_abcCheck_runs :
    (nextOf (step (State.reset.withFetchWord 32 0x11010FDF))).map (fun t => t.txframe.map (·.2)) =
      some [0x11, 0x01, 0x0F, 0xDF] := by decide
theorem test_frame_abcSet_runs :
    (nextOf (step (State.reset.withFetchWord 32 0x110110DE))).map (fun t => t.txframe.map (·.2)) =
      some [0x11, 0x01, 0x10, 0xDE] := by decide

/-- READMEAS as the first instruction after reset: with no answer given, the transport's answer is a free draw,
and the step still gives a next state. -/
theorem test_readmeas_runs_from_reset : ∃ t, step (State.reset.withFetchWord 8 0x06) = .next t := ⟨_, rfl⟩

/-! Witnesses: for each statement of Certificates/Slice0/Obligations.lean with hypotheses, inputs that meet them. -/

theorem witness_DecodeInvertsEncode :
    ({} : Config).opcodesDistinct = true ∧ (Instr.csum (List.replicate 255 0xFF)).wellFormed {} = true :=
  ⟨by decide, by simp [Instr.wellFormed, -List.reduceReplicate]⟩

theorem witness_EncodeInvertsDecode :
    decodeBytes {} .ctrl8 [0x1A] = .instr (.pack .abcParameterSet) ∧
    decodeBytes {} .cmdframe32 [0x11, 0x01, 0x10, 0xDE] = .instr .cmdframeAbcParameterSet := by decide

theorem witness_TenControlBytesAreLegal :
    (0x1A : Byte) ∈ ([0x00, 0x01, 0x02, 0x03, 0x04, 0x05, 0x06, 0x0A, 0x12, 0x1A] : List Byte) ∧
    (0x07 : Byte) ∉ ([0x00, 0x01, 0x02, 0x03, 0x04, 0x05, 0x06, 0x0A, 0x12, 0x1A] : List Byte) := by decide

/-- Each of the four conditions, at a boundary: OP = 7, the lowest RSV bit, CMD = 1, and N = 9. -/
theorem witness_IllegalRequestChangesOnlyStatus :
    (asking (.issue .ctrl8 [0x07])).phase = .idle ∧ ctrlOp 0x07 = 7 ∧ ctrlRsv 0x20 ≠ 0 ∧
    (ctrlOp 0x0B ≠ 2 ∧ ctrlCmd 0x0B ≠ 0) ∧
    (ctrlOp 0x03 = 3 ∧ ∃ n data, [(0x09 : Byte)] = n :: data ∧ State.reset.cfg.rxbufSize < n.toNat) :=
  ⟨rfl, by decide, by decide, by decide, by decide, 0x09, [], rfl, by decide⟩

theorem witness_StepRunsTheDecodedInstruction :
    (asking (.issue .ctrl8 [0x03, 0x01, 0xAA])).inputs = .issue .ctrl8 [0x03, 0x01, 0xAA] :: [] ∧
    (asking (.issue .ctrl8 [0x03, 0x01, 0xAA])).phase = .idle ∧
    decodeBytes (asking (.issue .ctrl8 [0x03, 0x01, 0xAA])).cfg .ctrl8 [0x03, 0x01, 0xAA] =
      .instr (.rxload [0xAA]) := by decide

theorem witness_FetchedTableWordRuns :
    State.reset.cfg = {} ∧ decodeTableWord 8 0x06 = some .readmeas ∧
    decodeTableWord 32 0x110110DE = some .cmdframeAbcParameterSet := by decide

theorem witness_StepHoldsTheStateWhenIdle : State.reset.inputs = [] := rfl

theorem witness_RequestWhilePendingHasNoStep :
    ((asking (.issue .ctrl8 [0x06])).setPhase .read).phase ≠ .idle ∧
    ((asking (.issue .ctrl8 [0x06])).setPhase .read).inputs = .issue .ctrl8 [0x06] :: [] ∧
    ((asking (.readReg .meas)).setPhase .write).phase ≠ .idle ∧
    ((asking (.readReg .meas)).setPhase .write).inputs = .readReg .meas :: [] := by decide

/-- Each clause: a value, no value in each of the three places, the first index outside each space, a register that
is always readable. -/
theorem witness_HostReadHasNoSideEffect :
    (asking (.readReg .status)).inputs = [.readReg .status] ∧ (asking (.readReg .status)).phase = .idle ∧
    (hostRead .status (asking (.readReg .status))).toOption = some (.byte 0x07) ∧
    (7 < State.reset.cfg.rxbufSize ∧ Memory.read State.reset.rxbuf 7 = none) ∧
    (3 < State.reset.cfg.cmdFrameBytes ∧ Memory.read State.reset.txframe 3 = none) ∧ State.reset.csumOut = none ∧
    State.reset.cfg.rxbufSize ≤ 8 ∧ State.reset.cfg.cmdFrameBytes ≤ 4 ∧
    (HostReg.status ≠ .csumOut ∧ HostReg.status ≠ .rxbuf 0 ∧ HostReg.status ≠ .txframe 0) := by decide

theorem witness_HostReadOutsideTheSpacesFaults :
    State.reset.cfg.rxbufSize ≤ 8 ∧ State.reset.cfg.cmdFrameBytes ≤ 4 := by decide

/-- Index 7 of RXBUF and index 3 of TXFRAME, with and without a value, and CSUM_OUT both ways. -/
theorem witness_HostReadsEveryRegister :
    Memory.read (received ppm600).rxbuf 7 = some 0x8A ∧ Memory.read (received ppm800).rxbuf 7 = none ∧
    Memory.read (packCommand .readMeasure State.reset).txframe 3 = some 0xED ∧
    Memory.read State.reset.txframe 3 = none ∧
    (State.reset.setCsumOut (some 0x01)).csumOut = some 0x01 ∧ State.reset.csumOut = none := by decide

theorem witness_ResetHoldsTheSpecValues : ∃ s, resetBlock (validated ppm800) = resetBlock s := ⟨_, rfl⟩

theorem witness_ResetIsTakenInAnyPhase :
    (((validated ppm800).setInputs [.reset]).setPhase .read).inputs = .reset :: [] := by decide

theorem witness_ChecksumNegatesTheSum : ({} : Config).byteBits = 8 := rfl

theorem witness_CommandChecksumClosedForm : ({} : Config).byteBits = 8 := rfl

theorem witness_ChecksumValidIffSumZero :
    ({} : Config).byteBits = 8 ∧ checksumValid {} [0x11, 0x01, 0x01, 0xED] = true := by decide

theorem witness_ReductionComputesTheChecksum : ([0x11, 0x01, 0xED] : List Byte).Perm [0xED, 0x11, 0x01] := by decide

/-- Two orders of the same bytes, equal sums mod 256, a sum of 0 and a sum of 255. -/
theorem witness_ChecksumLaws :
    ({} : Config).byteBits = 8 ∧ ([0x01, 0xFF] : List Byte).Perm [0xFF, 0x01] ∧ byteSum [0x01, 0xFF] % 256 = byteSum [0x00] % 256 ∧
    byteSum [0x01, 0xFF] % 256 = 0 ∧ byteSum [0xFF] % 256 = 255 := by decide

theorem witness_CsumResult :
    (List.replicate 255 (0xFF : Byte)).length ≤ 255 ∧
    (List.replicate 255 (0xFF : Byte)).length ≤ State.reset.cfg.csumMaxLen ∧ State.reset.cfg.byteBits = 8 :=
  ⟨by simp [-List.reduceReplicate], by simp [-List.reduceReplicate, State.reset], rfl⟩

/-- An empty frame, a valid frame that fills the buffer, and a mismatch. -/
theorem witness_VerifyResult :
    (received ppm600).cfg.byteBits = 8 ∧ ([] : List Byte).length = State.reset.rxcount.toNat ∧
    ppm600.length = (received ppm600).rxcount.toNat ∧
    (∀ a, a < (received ppm600).rxcount.toNat → Memory.read (received ppm600).rxbuf a = ppm600[a]?) ∧
    byteSum ppm600 % 256 = 0 ∧
    (∀ a, a < (received [0x05]).rxcount.toNat → Memory.read (received [0x05]).rxbuf a = [0x05][a]?) ∧
    byteSum [0x05] % 256 ≠ 0 := by decide

theorem witness_PackResult : State.reset.cfg.byteBits = 8 ∧ State.reset.cfg.cmdFrameBytes = 4 := by decide

theorem witness_CommandFrameRowsResult :
    State.reset.cfg.byteBits = 8 ∧ State.reset.cfg.cmdFrameBytes = 4 ∧
    (Instr.cmdframeAbcParameterSet, Command.abcParameterSet) ∈
      [(Instr.cmdframeReadMeasure, Command.readMeasure), (Instr.cmdframeCalibration, Command.calibration),
        (Instr.cmdframeAbcParameterCheck, Command.abcParameterCheck),
        (Instr.cmdframeAbcParameterSet, Command.abcParameterSet)] := by decide

theorem witness_IssuedCommandFrameStandsInTxframe :
    (asking (.issue .cmdframe32 [0x11, 0x01, 0x03, 0xEB])).inputs =
      .issue .cmdframe32 (commandFrame (asking (.issue .cmdframe32 [0x11, 0x01, 0x03, 0xEB])).cfg .calibration) :: [] ∧
    (asking (.issue .cmdframe32 [0x11, 0x01, 0x03, 0xEB])).phase = .idle ∧
    (asking (.issue .cmdframe32 [0x11, 0x01, 0x03, 0xEB])).cfg.cmdFrameBytes = 4 := by decide

theorem witness_CommandFrameFedBack :
    ({} : Config).byteBits = 8 ∧ State.reset.cfg.sized = true ∧ 4 ≤ State.reset.cfg.rxbufSize ∧
    State.reset.cfg.cmdLenField = 1 ∧ State.reset.cfg.lengthPolicy = .exact := by decide

/-- Each clause at a boundary: 8 bytes, none, 9 bytes, and a count byte of 9. -/
theorem witness_RxloadResult :
    State.reset.cfg.sized = true ∧ ppm600.length ≤ State.reset.cfg.rxbufSize ∧
    ([] : List Byte).length ≤ State.reset.cfg.rxbufSize ∧
    State.reset.cfg.rxbufSize < (List.replicate 9 (0x00 : Byte)).length ∧
    State.reset.cfg.rxbufSize < (0x09 : Byte).toNat := by decide

/-- The shortest and the longest accepted frame, an empty frame, a mismatch, and a wrong length byte. -/
theorem witness_ValidateResultExact :
    State.reset.cfg.lengthPolicy = .exact ∧ State.reset.cfg.byteBits = 8 ∧ (received ppm600).rxcount.toNat ≤ 11 ∧
    ppm600.length = (received ppm600).rxcount.toNat ∧
    (∀ a, a < (received ppm600).rxcount.toNat → Memory.read (received ppm600).rxbuf a = ppm600[a]?) ∧
    (byteSum ppm600 % 256 = 0 ∧ 4 ≤ ppm600.length ∧ ppm600[1]? = some (BitVec.ofNat 8 (ppm600.length - 3))) ∧
    (let f : List Byte := [0x16, 0x01, 0x01, 0xE8]
     (∀ a, a < (received f).rxcount.toNat → Memory.read (received f).rxbuf a = f[a]?) ∧
     byteSum f % 256 = 0 ∧ f[1]? = some (BitVec.ofNat 8 (f.length - 3))) ∧
    (let f : List Byte := [0x16, 0x02, 0x01, 0x03, 0x20, 0xC4]
     (∀ a, a < (received f).rxcount.toNat → Memory.read (received f).rxbuf a = f[a]?) ∧
     byteSum f % 256 = 0 ∧ f[1]? ≠ some (BitVec.ofNat 8 (f.length - 3))) ∧
    ([] : List Byte).length = State.reset.rxcount.toNat := by decide

/-- A block whose parameters take the BOUNDS policy, with the bytes `d` loaded. -/
def boundsReceived (d : List Byte) : State :=
  loadReceived d { State.reset with cfg := { lengthPolicy := .bounds } }

/-- The four clauses: empty, a mismatch, len = 1 with the largest slack, and len = 0. -/
theorem witness_ValidateResultBounds :
    (boundsReceived []).cfg.lengthPolicy = .bounds ∧ (boundsReceived []).cfg.byteBits = 8 ∧
    (boundsReceived ppm600).rxcount.toNat ≤ 11 ∧
    ([] : List Byte).length = (boundsReceived []).rxcount.toNat ∧
    (let f : List Byte := [0x05]
     f.length = (boundsReceived f).rxcount.toNat ∧ byteSum f % 256 ≠ 0) ∧
    (let f : List Byte := [0x16, 0x01, 0x01, 0x00, 0x00, 0x00, 0x00, 0xE8]
     (∀ a, a < (boundsReceived f).rxcount.toNat → Memory.read (boundsReceived f).rxbuf a = f[a]?) ∧
     byteSum f % 256 = 0 ∧ f[1]? = some 0x01 ∧ 2 + 1 + 1 ≤ f.length) ∧
    (let f : List Byte := [0x16, 0x00, 0xEA]
     (∀ a, a < (boundsReceived f).rxcount.toNat → Memory.read (boundsReceived f).rxbuf a = f[a]?) ∧
     byteSum f % 256 = 0 ∧ f[1]? = some 0x00) := by decide

theorem witness_FirstFailingCheckIsReported :
    checksumValid {} [0x16, 0x09, 0x01, 0x03, 0x20, 0x00] = false ∧
    (checksumValid {} [0x16, 0x00, 0xEA] = true ∧ [(0x16 : Byte), 0x00, 0xEA].length < 4) ∧
    (checksumValid {} [0x16, 0x04, 0x01, 0x03, 0x20, 0xC2] = true ∧
      lengthFits .exact 4 6 = false ∧ lengthFits .bounds 4 6 = false) := by decide

theorem witness_AcceptedFrameShape :
    ({} : Config).lengthPolicy = .exact ∧ ({} : Config).payloadOffset = 3 ∧ ppm600.length ≤ 8 ∧ validateFrame {} ppm600 = .accepted 4 ∧
    validateFrame {} [0x16, 0x01, 0x01, 0xE8] = .accepted 0 := by decide

theorem witness_FrameRoundTrip :
    State.reset.cfg.sized = true ∧ ({} : Config).payloadOffset = 3 ∧ 1 ≤ (List.replicate 5 (0xFF : Byte)).length ∧
    (List.replicate 5 (0xFF : Byte)).length + 3 ≤ State.reset.cfg.rxbufSize ∧
    State.reset.cfg.lengthPolicy = .exact ∧ (List.replicate 255 (0xFF : Byte)).length ≤ 255 :=
  ⟨by decide, rfl, by decide, by decide, rfl, by simp [-List.reduceReplicate]⟩

theorem witness_ExactRefinesBounds : validateFrame { ({} : Config) with lengthPolicy := .exact } ppm800 = .accepted 2 := by decide

/-- The three clauses: no accepted frame, a payload of one byte, and a payload of two. -/
theorem witness_DecodeResult :
    (received ppm800).payloadValid = false ∧
    ((validated [0x16, 0x02, 0x01, 0x07, 0xE0]).payloadValid = true ∧
      (validated [0x16, 0x02, 0x01, 0x07, 0xE0]).plen.toNat < 2) ∧
    ((validated ppm800).payloadValid = true ∧ 2 ≤ (validated ppm800).plen.toNat ∧
      (validated ppm800).cfg.byteBits = 8 ∧ 17 ≤ (validated ppm800).cfg.measBits ∧
      Memory.read (validated ppm800).rxbuf (validated ppm800).cfg.payloadOffset = some 0x03 ∧
      Memory.read (validated ppm800).rxbuf ((validated ppm800).cfg.payloadOffset + 1) = some 0x20) := by
  decide

/-- A block that holds the greatest measurement and takes a step. -/
theorem witness_MeasurementRangeIsKept :
    State.reset.cfg.byteBits = 8 ∧ State.reset.cfg.measBits = 32 ∧
    (∀ m, (State.reset.setMeas (some 65535)).meas = some m →
      0 ≤ m ∧ m ≤ 65535 ∧ (measWord State.reset.cfg m).extractLsb' 16 16 = 0 ∧
      (measWord State.reset.cfg m).toInt = m) ∧
    ∃ t, step (State.reset.setMeas (some 65535)) = .next t :=
  ⟨rfl, rfl, fun m h => by
    cases h
    decide, _, rfl⟩

/-- Another buffer with the same two payload bytes, and a DECODE that completes. -/
theorem witness_DecodeReadsTwoPayloadBytes :
    (let s := validated ppm800
     Memory.read [(3, 0x03), (4, 0x20)] s.cfg.payloadOffset = Memory.read s.rxbuf s.cfg.payloadOffset ∧
     Memory.read [(3, 0x03), (4, 0x20)] (s.cfg.payloadOffset + 1) =
       Memory.read s.rxbuf (s.cfg.payloadOffset + 1)) ∧
    ∃ t, exec .decode (validated ppm800) = .next t :=
  ⟨by decide, _, rfl⟩

/-- Every byte below RXCOUNT holds a value, in a form `decide` evaluates. -/
theorem valued_of_decide {s : State}
    (h : (List.range s.rxcount.toNat).all (fun a => (Memory.read s.rxbuf a).isSome) = true) :
    ∀ a, a < s.rxcount.toNat → ∃ b, Memory.read s.rxbuf a = some b := fun a ha =>
  Option.isSome_iff_exists.mp (List.all_eq_true.mp h a (List.mem_range.mpr ha))

/-- A state with an accepted frame of 8 bytes meets the invariant. -/
theorem validated_ppm600_inv : (validated ppm600).Inv :=
  ⟨by decide, by decide, by decide, by decide, rfl, by decide, by decide, valued_of_decide (by decide), rfl,
    .inl ⟨rfl, rfl⟩, by decide, fun h => (by cases h), fun m h => (by cases h)⟩

theorem witness_MeasurementComesFromAnAcceptedFrame :
    (validated ppm600).Inv ∧ (validated ppm600).cfg.byteBits = 8 ∧
    ∃ t, exec .decode (validated ppm600) = .next t ∧ t.meas = some 600 :=
  ⟨validated_ppm600_inv, rfl, _, rfl, by decide⟩

theorem validated_ppm800_inv : (validated ppm800).Inv :=
  ⟨by decide, by decide, by decide, by decide, rfl, by decide, by decide, valued_of_decide (by decide), rfl,
    .inl ⟨rfl, rfl⟩, by decide, fun h => (by cases h), fun m h => (by cases h)⟩

/-- A frame of six bytes that is accepted, over two bytes that hold no value. -/
theorem witness_NoValueIsNeverReadAsANumber :
    (validated ppm800).Inv ∧ Memory.read (validated ppm800).rxbuf 6 = none ∧
      (validated ppm800).payloadValid = true ∧ ppm800.length = (validated ppm800).rxcount.toNat ∧
      ∀ a, a < 6 → ppm800[a]? = some ((Memory.read (validated ppm800).rxbuf a).getD 0x00) :=
  ⟨validated_ppm800_inv, by decide, by decide, by decide, by decide⟩

theorem witness_ReadmeasWriteFailed :
    State.reset.cfg.cmdFrameBytes = 4 ∧
    writeAnswerFrom (awaiting .fail .timeout).writeAnswers (awaiting .fail .timeout).asked.length = .fail := by
  decide

/-- A time-out, and a read of no bytes. -/
theorem witness_ReadmeasNoData :
    State.reset.cfg.cmdFrameBytes = 4 ∧
    writeAnswerFrom (awaiting .ok .timeout).writeAnswers (awaiting .ok .timeout).asked.length = .ok ∧
    readAnswerFrom 8 (awaiting .ok .timeout).readAnswers ((awaiting .ok .timeout).asked.length + 1) = .timeout ∧
    readAnswerFrom 8 (awaiting .ok (.data [])).readAnswers 1 = .data [] := by decide

/-- A read of 8 bytes that is accepted, one that is rejected, and one whose payload is too short. -/
theorem witness_ReadmeasData :
    State.reset.cfg.sized = true ∧ State.reset.cfg.byteBits = 8 ∧
    (let s := awaiting .ok (.data ppm600)
     writeAnswerFrom s.writeAnswers s.asked.length = .ok ∧
     readAnswerFrom s.cfg.rxbufSize s.readAnswers (s.asked.length + 1) = .data ppm600 ∧
     validateFrame s.cfg ppm600 = .accepted 4) ∧
    ppm600 ≠ [] ∧ ppm600[3]? = some 0x02 ∧ ppm600[4]? = some 0x58 ∧
    validateFrame State.reset.cfg [0x16, 0x03, 0x01] = .rejected .checksumMismatch ∧
    validateFrame State.reset.cfg [0x16, 0x01, 0x01, 0xE8] = .accepted 0 := by decide

theorem witness_ReadmeasIsTheFourRequests :
    State.reset.cfg.rxbufSize ≤ 15 ∧
    (let s := awaiting .ok (.data ppm800)
     s.phase = .idle ∧ writeAnswerFrom s.writeAnswers s.asked.length = .ok ∧
     readAnswerFrom s.cfg.rxbufSize s.readAnswers (s.asked.length + 1) = .data ppm800 ∧
     validateFrame s.cfg ppm800 = .accepted 2) ∧
    ppm800 ≠ [] ∧
    validateFrame State.reset.cfg [0x16, 0x03, 0x01] = .rejected .checksumMismatch := by decide

theorem witness_TransportIsAskedOnceInOrder :
    (∃ t, exec .readmeas (awaiting .ok .timeout) = .next t) ∧
    (∃ t, exec (.pack .calibration) State.reset = .next t) :=
  ⟨⟨_, rfl⟩, _, rfl⟩

theorem witness_StatusAfterAnyInstruction :
    ∃ t, exec .readmeas (awaiting .ok .timeout) = .next t ∧ statusCodeField t.status = 3 :=
  ⟨_, rfl, by decide⟩

/-- An instruction that is not RXLOAD, READMEAS, PACK, CSUM, VALIDATE or DECODE. -/
theorem witness_RegistersHaveOnlyTheirWriters :
    (∃ t, exec .verify (received ppm800) = .next t) ∧ Instr.verify.format = .ctrl8 ∧
    Instr.verify ≠ .readmeas ∧ Instr.verify ≠ .validate ∧ Instr.verify ≠ .decode :=
  ⟨⟨_, rfl⟩, by decide⟩

theorem witness_ReceiveBufferIsNeverCleared :
    (State.reset.cfg.sized = true ∧ (Instr.rxload ppm800).wellFormed {} = true ∧
      (∃ t, exec (.rxload ppm800) (received ppm600) = .next t) ∧ 5 < ppm800.length) ∧
    (let s := awaiting .ok (.data ppm800)
     (∃ t, exec .readmeas s = .next t) ∧ writeAnswerFrom s.writeAnswers s.asked.length = .ok ∧
      readAnswerFrom s.cfg.rxbufSize s.readAnswers (s.asked.length + 1) = .data ppm800) ∧
    Memory.read (received ppm600).rxbuf 7 = some 0x8A :=
  ⟨⟨by decide, by decide, ⟨_, rfl⟩, by decide⟩, ⟨⟨_, rfl⟩, by decide, by decide⟩, by decide⟩

theorem witness_NoErrorProducesAMeasurement :
    (∃ t, exec .decode (validated ppm800) = .next t ∧ statusCodeField t.status = 0) ∧
    (∃ t, exec .readmeas (awaiting .fail .timeout) = .next t ∧ t.meas = none) :=
  ⟨⟨_, rfl, by decide⟩, _, rfl, by decide⟩

theorem witness_RepeatedChecksAreIdempotent :
    (∃ t, exec .verify (received ppm800) = .next t) ∧ (∃ t, exec .validate (received ppm800) = .next t) ∧
    (∃ t, exec .decode (validated ppm800) = .next t) :=
  ⟨⟨_, rfl⟩, ⟨_, rfl⟩, _, rfl⟩

theorem witness_ParametersAreFixed : ∃ t, step (asking (.issue .ctrl8 [0x04])) = .next t := ⟨_, rfl⟩

theorem witness_StepKeepsTheInvariant :
    (validated ppm600).Inv ∧ ∃ t, step (validated ppm600) = .next t :=
  ⟨validated_ppm600_inv, _, rfl⟩

theorem witness_EveryInstructionCompletesUnderTheInvariant : (validated ppm600).Inv := validated_ppm600_inv

/-- The 4-byte frame accepted over the stale tail of `rest`. -/
def shortOver (rest : List Byte) : State :=
  validateBytes [0x16, 0x01, 0x01, 0xE8] (loadReceived [0x16, 0x01, 0x01, 0xE8] (received rest))

/-- Two states with the same frame and different stale bytes. -/
theorem witness_StaleBytesDoNotMatter :
    (Instr.rxload ppm600).wellFormed {} = true ∧ (shortOver ppm600).Inv ∧ (shortOver ppm800).Inv ∧
    SameButStale (shortOver ppm600) (shortOver ppm800) ∧
    Memory.read (shortOver ppm600).rxbuf 4 ≠ Memory.read (shortOver ppm800).rxbuf 4 := by
  refine ⟨by decide, ?_, ?_, ⟨rfl, by decide⟩, by decide⟩
  · exact ⟨by decide, by decide, by decide, by decide, rfl, by decide, by decide, valued_of_decide (by decide), rfl,
      .inl ⟨rfl, rfl⟩, by decide, fun _ => rfl, fun m h => (by cases h)⟩
  · exact ⟨by decide, by decide, by decide, by decide, rfl, by decide, by decide, valued_of_decide (by decide), rfl,
      .inl ⟨rfl, rfl⟩, by decide, fun _ => rfl, fun m h => (by cases h)⟩

end Sys2Proof.Tests
end

section
/-! PROOFS, 00_scope.md: DECODE and READMEAS leave a measurement exactly when they end in OK. -/

namespace Sys2Proof.Machine

/-! What STATUS.CODE reads as after a request has ended. -/

/-- STATUS.CODE holds the code that was written, whatever the cause beside it. -/
@[simp] theorem statusCodeField_statusByte (code : StatusCode) (tcause : BitVec 2) :
    statusCodeField (statusByte code tcause) = codeBits code := by
  revert tcause
  cases code <;> decide

@[simp] theorem statusCodeField_statusOk : statusCodeField statusOk = 0 :=
  statusCodeField_statusByte .ok 0

/-- No error writes the code OK. -/
theorem statusCodeField_statusOfError_ne_zero (e : RequestError) : statusCodeField (statusOfError e) ≠ 0 := by
  rw [statusOfError, statusCodeField_statusByte]
  cases e <;> simp [errorCode, codeBits]

/-! A measurement stands exactly when CODE is OK, and the two ways to end so. -/

/-- CODE is OK exactly when MEAS holds a measurement (00_scope.md R11; 60_exceptions.md R228). -/
def State.MeasuredIffOk (t : State) : Prop :=
  statusCodeField t.status = 0 ↔ ∃ m, t.meas = some m

theorem State.measuredIffOk_of_ok {t : State} {m : Int} (hs : t.status = statusOk) (hm : t.meas = some m) :
    t.MeasuredIffOk := by
  simp [State.MeasuredIffOk, hs, hm]

theorem State.measuredIffOk_of_error {t : State} {e : RequestError} (hs : t.status = statusOfError e)
    (hm : t.meas = none) : t.MeasuredIffOk :=
  iff_of_false (hs ▸ statusCodeField_statusOfError_ne_zero e) (by simp [hm])

/-! DECODE, which clears MEAS before it looks at anything. -/

theorem decodeChecked_measuredIffOk (hi lo : Byte) (s : State) : (decodeChecked hi lo s).MeasuredIffOk := by
  rw [decodeChecked_spec]
  by_cases hv : s.payloadValid = true
  · by_cases hp : s.plen.toNat < 2
    · exact State.measuredIffOk_of_error (e := .malformed) (by simp [hv, hp]) (by simp [hp])
    · exact State.measuredIffOk_of_ok (m := measurementOf s.cfg hi lo) (by simp [hv, hp]) (by simp [hv, hp])
  · exact State.measuredIffOk_of_error (e := .unchecked) (by simp [hv]) (by simp [hv])

/-! READMEAS, from its last phase back to its first. The exchange clears MEAS at its start, and only the DECODE
phase writes it after that, so each phase is entered with MEAS none. -/

theorem decodePhase_measuredIffOk {s : State} (h : s.meas = none) : (decodePhase s).MeasuredIffOk := by
  rw [decodePhase_spec]
  by_cases hp : s.plen.toNat < 2
  · exact State.measuredIffOk_of_error (e := .malformed) (by simp [hp]) (by simp [hp, h])
  · exact State.measuredIffOk_of_ok (m := measurementOf s.cfg (payloadHigh s) (payloadLow s))
      (by simp [hp]) (by simp [hp])

theorem validatePhase_measuredIffOk {s : State} (h : s.meas = none) : (validatePhase s).MeasuredIffOk := by
  cases hv : validateFrame s.cfg (frameInBuffer s) with
  | accepted plen =>
    rw [validatePhase_accepted s hv]
    exact decodePhase_measuredIffOk h
  | rejected e =>
    rw [validatePhase_rejected s hv]
    exact State.measuredIffOk_of_error rfl h

theorem readPhase_measuredIffOk {s : State} (h : s.meas = none) : (readPhase s).MeasuredIffOk := by
  cases ha : readAnswer s with
  | timeout =>
    rw [readPhase_timeout s ha]
    exact State.measuredIffOk_of_error rfl h
  | data d =>
    by_cases hd : d = []
    · subst hd
      rw [readPhase_noResponse s ha]
      exact State.measuredIffOk_of_error rfl h
    · rw [readPhase_data s ha hd]
      exact validatePhase_measuredIffOk h

theorem writePhase_measuredIffOk (frame : List Byte) {s : State} (h : s.meas = none) :
    (writePhase frame s).MeasuredIffOk := by
  cases ha : writeAnswer s with
  | fail =>
    rw [writePhase_fail frame s ha]
    exact State.measuredIffOk_of_error rfl h
  | ok =>
    rw [writePhase_ok frame s ha]
    exact readPhase_measuredIffOk h

/-- What the WRITE phase is entered with: the exchange has cleared MEAS, and encoding leaves it so. -/
theorem encodePhase_beginExchange_meas (frame : List Byte) (s : State) :
    (encodePhase frame (beginExchange s)).meas = none := rfl

theorem exchange_measuredIffOk (s : State) : (exchange s).MeasuredIffOk :=
  writePhase_measuredIffOk _ (encodePhase_beginExchange_meas _ s)

/-- Settles O48: DECODE by its cases, READMEAS phase by phase. -/
theorem noErrorProducesAMeasurement : Obligations.NoErrorProducesAMeasurement := by
  rintro i s t (rfl | rfl) h
  · cases h
    exact decodeChecked_measuredIffOk _ _ s
  · cases h
    exact exchange_measuredIffOk s

end Sys2Proof.Machine
end

section
/-! PROOFS, 10_state.md: what STATUS can hold after an instruction, which registers each instruction writes, what a
host read delivers, and the invariant of the block. -/

namespace Sys2Proof.Machine

/-! The STATUS byte, field by field (R20). -/

/-- STATUS.TCAUSE holds the cause that was written, whatever the code beside it. -/
@[simp] theorem statusCauseField_statusByte (code : StatusCode) (tcause : BitVec 2) :
    statusCauseField (statusByte code tcause) = tcause := by
  revert tcause
  cases code <;> decide

@[simp] theorem statusReservedField_statusByte (code : StatusCode) (tcause : BitVec 2) :
    statusReservedField (statusByte code tcause) = 0 := by
  revert tcause
  cases code <;> decide

/-- The shape R20 gives STATUS: the three parts of the invariant that speak of it. -/
structure StatusShape (status : Byte) : Prop where
  reserved : statusReservedField status = 0
  code : statusCodeField status ≠ 6
  cause : statusCauseField status ≠ 0 ↔ statusCodeField status = 3

theorem statusIdle_shape : StatusShape (statusByte .idle 0) :=
  ⟨by simp, by simp [codeBits], by simp [codeBits]⟩

theorem statusOk_shape : StatusShape statusOk :=
  ⟨by simp [statusOk], by simp, by simp [statusOk, codeBits]⟩

/-- A cause is never NONE, so only a transport error has TCAUSE set (60_exceptions.md R221). -/
theorem statusOfError_shape (e : RequestError) : StatusShape (statusOfError e) := by
  cases e with
  | transportError cause =>
    refine ⟨by simp [statusOfError], by simp [statusOfError, errorCode, codeBits], ?_⟩
    cases cause <;> simp [statusOfError, errorCode, errorCause, codeBits, causeBits]
  | checksumMismatch | malformed | illegalOp | unchecked =>
    exact ⟨by simp [statusOfError], by simp [statusOfError, errorCode, codeBits],
      by simp [statusOfError, errorCode, errorCause, codeBits]⟩

/-- No error writes the code IDLE. -/
theorem statusCodeField_statusOfError_ne_idle (e : RequestError) : statusCodeField (statusOfError e) ≠ 7 := by
  rw [statusOfError, statusCodeField_statusByte]
  cases e <;> simp [errorCode, codeBits]

theorem statusCodeField_statusOfError_eq_transport {e : RequestError}
    (h : statusCodeField (statusOfError e) = 3) : ∃ cause, e = .transportError cause := by
  rw [statusOfError, statusCodeField_statusByte] at h
  cases e with
  | transportError cause => exact ⟨cause, rfl⟩
  | checksumMismatch | malformed | illegalOp | unchecked => simp [errorCode, codeBits] at h

/-! How READMEAS ends: the transport is asked, which no register of the block shows, and the exchange then ends in
one of three ways. -/

/-- `q` is `s` but for the phase and for what has passed between the block and the transport. -/
def SameButTransport (s q : State) : Prop :=
  ∃ p w r a, q = { s with phase := p, writeAnswers := w, readAnswers := r, asked := a }

theorem askWrite_sameButTransport (frame : List Byte) (p : Phase) (s : State) :
    SameButTransport s (askWrite frame (s.setPhase p)) :=
  ⟨p, s.writeAnswers.tail, s.readAnswers, s.asked ++ [.write frame], rfl⟩

theorem askRead_sameButTransport (p : Phase) (s : State) : SameButTransport s (askRead (s.setPhase p)) :=
  ⟨p, s.writeAnswers, s.readAnswers.tail, s.asked ++ [.read], rfl⟩

theorem SameButTransport.trans {s q q' : State} (h : SameButTransport s q) (h' : SameButTransport q q') :
    SameButTransport s q' := by
  obtain ⟨_, _, _, _, rfl⟩ := h
  obtain ⟨p, w, r, a, rfl⟩ := h'
  exact ⟨p, w, r, a, rfl⟩

/-- The ends of an exchange, from the state `q` in which the transport has answered (44_transaction.md R191). -/
inductive ExchangeEnds (q : State) : State → Prop
  | failed (cause : TransportCause) : ExchangeEnds q (transportFailure cause q)
  | rejected {d : List Byte} {e : RequestError} (hl : d.length ≤ q.cfg.rxbufSize)
      (hv : validateFrame q.cfg (frameInBuffer (loadBytes d q)) = .rejected e) :
      ExchangeEnds q (endExchange (raise e (loadBytes d q)))
  | accepted {d : List Byte} {plen : Nat} (hl : d.length ≤ q.cfg.rxbufSize)
      (hv : validateFrame q.cfg (frameInBuffer (loadBytes d q)) = .accepted plen) :
      ExchangeEnds q (decodePhase (acceptPayload plen (loadBytes d q)))

/-- The phase a payload is accepted in leaves no trace once DECODE has ended. -/
theorem decodePhase_acceptPayload_setPhase (plen : Nat) (p : Phase) (s : State) :
    decodePhase (acceptPayload plen (s.setPhase p)) = decodePhase (acceptPayload plen s) := by
  rw [decodePhase_spec, decodePhase_spec]
  rfl

theorem validatePhase_ends {d : List Byte} {q : State} (hl : d.length ≤ q.cfg.rxbufSize) :
    ExchangeEnds q (validatePhase (loadBytes d q)) := by
  cases hv : validateFrame q.cfg (frameInBuffer (loadBytes d q)) with
  | rejected e =>
    rw [validatePhase_rejected _ hv]
    exact .rejected hl hv
  | accepted plen =>
    rw [validatePhase_accepted _ hv, decodePhase_acceptPayload_setPhase]
    exact .accepted hl hv

theorem readPhase_ends (s : State) : ∃ q, SameButTransport s q ∧ ExchangeEnds q (readPhase s) := by
  refine ⟨askRead (s.setPhase .read), askRead_sameButTransport .read s, ?_⟩
  cases ha : readAnswer s with
  | timeout =>
    rw [readPhase_timeout s ha]
    exact .failed .timeout
  | data d =>
    by_cases hd : d = []
    · subst hd
      rw [readPhase_noResponse s ha]
      exact .failed .noResponse
    · rw [readPhase_data s ha hd]
      exact validatePhase_ends (readAnswerFrom_length ha)

theorem writePhase_ends (frame : List Byte) (s : State) :
    ∃ q, SameButTransport s q ∧ ExchangeEnds q (writePhase frame s) := by
  have hw := askWrite_sameButTransport frame .write s
  cases ha : writeAnswer s with
  | fail =>
    rw [writePhase_fail frame s ha]
    exact ⟨_, hw, .failed .writeFailed⟩
  | ok =>
    rw [writePhase_ok frame s ha]
    obtain ⟨q, hq, h⟩ := readPhase_ends (askWrite frame (s.setPhase .write))
    exact ⟨q, hw.trans hq, h⟩

/-- What the transport is asked from: the last exchange cleared, and the ReadMeasure frame encoded. -/
def encodedExchange (s : State) : State :=
  encodePhase (commandFrame s.cfg .readMeasure) (beginExchange s)

theorem exchange_ends (s : State) : ∃ q, SameButTransport (encodedExchange s) q ∧ ExchangeEnds q (exchange s) :=
  writePhase_ends _ _

/-! What any instruction leaves in STATUS (R20). -/

/-- STATUS as an instruction can leave it: OK, or an error, of which only READMEAS has the transport's. -/
def EndStatus (i : Instr) (status : Byte) : Prop :=
  status = statusOk ∨ ∃ e, status = statusOfError e ∧ ((∃ cause, e = .transportError cause) → i = .readmeas)

theorem EndStatus.ofError {i : Instr} {e : RequestError} (he : ∀ cause, e ≠ .transportError cause) :
    EndStatus i (statusOfError e) :=
  .inr ⟨e, rfl, fun ⟨cause, h⟩ => absurd h (he cause)⟩

theorem verifyBytes_endStatus (i : Instr) (f : List Byte) (s : State) : EndStatus i (verifyBytes f s).status := by
  rw [verifyBytes_spec]
  by_cases hf : f.length = 0
  · simpa [hf] using EndStatus.ofError (e := .malformed) (by simp)
  · by_cases hc : checksumValid s.cfg f = true
    · exact .inl (by simp [hf, hc])
    · simpa [hf, hc] using EndStatus.ofError (e := .checksumMismatch) (by simp)

theorem validateBytes_endStatus (i : Instr) (f : List Byte) (s : State) :
    EndStatus i (validateBytes f s).status := by
  cases hv : validateFrame s.cfg f with
  | accepted plen =>
    rw [validateBytes_accepted hv]
    exact .inl rfl
  | rejected e =>
    rw [validateBytes_rejected hv]
    refine EndStatus.ofError fun cause => ?_
    rcases validateFrame_rejected hv with rfl | rfl <;> simp

theorem decodeChecked_endStatus (i : Instr) (hi lo : Byte) (s : State) :
    EndStatus i (decodeChecked hi lo s).status := by
  rw [decodeChecked_spec]
  by_cases hv : s.payloadValid = true
  · by_cases hp : s.plen.toNat < 2
    · simpa [hv, hp] using EndStatus.ofError (e := .malformed) (by simp)
    · exact .inl (by simp [hv, hp])
  · simpa [hv] using EndStatus.ofError (e := .unchecked) (by simp)

theorem ExchangeEnds.endStatus {q t : State} (h : ExchangeEnds q t) : EndStatus .readmeas t.status := by
  cases h with
  | failed cause => exact .inr ⟨.transportError cause, rfl, fun _ => rfl⟩
  | @rejected d e => exact .inr ⟨e, rfl, fun _ => rfl⟩
  | @accepted d plen =>
    rw [decodePhase_spec]
    by_cases hp : (acceptPayload plen (loadBytes d q)).plen.toNat < 2
    · exact .inr ⟨.malformed, by simp [hp], fun _ => rfl⟩
    · exact .inl (by simp [hp])

theorem exchange_endStatus (s : State) : EndStatus .readmeas (exchange s).status :=
  have ⟨_, _, hq⟩ := exchange_ends s
  hq.endStatus

/-- RXLOAD is refused as illegal, or its bytes fit and are loaded. -/
theorem exec_rxload_next {d : List Byte} {s t : State} (h : exec (.rxload d) s = .next t) :
    t = raise .illegalOp s ∨ (d.length ≤ s.cfg.rxbufSize ∧ t = loadReceived d s) := by
  simp only [exec, execRxload] at h
  split at h
  · cases h
    exact .inl rfl
  · cases h
    exact .inr ⟨by omega, rfl⟩

theorem exec_endStatus {i : Instr} {s t : State} (h : exec i s = .next t) : EndStatus i t.status := by
  cases i with
  | rxload d =>
    rcases exec_rxload_next h with rfl | ⟨-, rfl⟩
    · exact EndStatus.ofError (e := .illegalOp) (by simp)
    · exact .inl rfl
  | verify => cases h; exact verifyBytes_endStatus _ _ s
  | validate => cases h; exact validateBytes_endStatus _ _ s
  | decode => cases h; exact decodeChecked_endStatus _ _ _ s
  | readmeas => cases h; exact exchange_endStatus s
  | csum | pack | cmdframeReadMeasure | cmdframeCalibration | cmdframeAbcParameterCheck
  | cmdframeAbcParameterSet => cases h; exact .inl rfl

theorem EndStatus.shape {i : Instr} {status : Byte} (h : EndStatus i status) : StatusShape status := by
  rcases h with rfl | ⟨e, rfl, -⟩
  · exact statusOk_shape
  · exact statusOfError_shape e

theorem EndStatus.ne_idle {i : Instr} {status : Byte} (h : EndStatus i status) : statusCodeField status ≠ 7 := by
  rcases h with rfl | ⟨e, rfl, -⟩
  · simp
  · exact statusCodeField_statusOfError_ne_idle e

theorem EndStatus.transport {i : Instr} {status : Byte} (h : EndStatus i status)
    (h3 : statusCodeField status = 3) : i = .readmeas := by
  rcases h with rfl | ⟨e, rfl, hi⟩
  · simp at h3
  · exact hi (statusCodeField_statusOfError_eq_transport h3)

/-- Settles O45: an instruction leaves OK or an error in STATUS, and both have the shape of R20. -/
theorem statusAfterAnyInstruction : Obligations.StatusAfterAnyInstruction := by
  intro i s t h
  have hs := exec_endStatus h
  exact ⟨hs.shape.reserved, hs.shape.code, hs.ne_idle, hs.shape.cause, hs.transport⟩

/-! The writers of each register (R28, R29). -/

/-- `t` is `s` but for TXFRAME, TXLEN and STATUS: what the frame_encoder writes. -/
def WritesFrameOnly (s t : State) : Prop :=
  t = { s with txframe := t.txframe, txlen := t.txlen, status := t.status }

/-- The register summary of R28, read by instruction: `t` is `s` but for the registers that `i` writes. READMEAS
writes every one but CSUM_OUT. -/
def WritesOnly (s t : State) : Instr → Prop
  | .csum _ => t = { s with csumOut := t.csumOut, status := t.status }
  | .verify => t = { s with status := t.status }
  | .pack _ => WritesFrameOnly s t
  | .rxload _ => t = { s with
      rxbuf := t.rxbuf, rxcount := t.rxcount, payloadValid := t.payloadValid, plen := t.plen, status := t.status }
  | .validate => t = { s with payloadValid := t.payloadValid, plen := t.plen, status := t.status }
  | .decode => t = { s with meas := t.meas, status := t.status }
  | .readmeas => t.csumOut = s.csumOut ∧ t.cfg = s.cfg ∧ t.inputs = s.inputs ∧ t.phase = .idle
  | .cmdframeReadMeasure => WritesFrameOnly s t
  | .cmdframeCalibration => WritesFrameOnly s t
  | .cmdframeAbcParameterCheck => WritesFrameOnly s t
  | .cmdframeAbcParameterSet => WritesFrameOnly s t

theorem validateBytes_writesOnly (f : List Byte) (s : State) : WritesOnly s (validateBytes f s) .validate := by
  cases hv : validateFrame s.cfg f with
  | accepted plen =>
    rw [validateBytes_accepted hv]
    rfl
  | rejected e =>
    rw [validateBytes_rejected hv]
    rfl

theorem ExchangeEnds.writesOnly {q t : State} (h : ExchangeEnds q t) : WritesOnly q t .readmeas := by
  cases h with
  | failed cause => exact ⟨rfl, rfl, rfl, rfl⟩
  | rejected => exact ⟨rfl, rfl, rfl, rfl⟩
  | accepted =>
    rw [decodePhase_spec]
    exact ⟨rfl, rfl, rfl, rfl⟩

theorem exchange_writesOnly (s : State) : WritesOnly s (exchange s) .readmeas := by
  obtain ⟨q, ⟨p, w, r, a, rfl⟩, hq⟩ := exchange_ends s
  exact hq.writesOnly

theorem exec_writesOnly {i : Instr} {s t : State} (h : exec i s = .next t) : WritesOnly s t i := by
  cases i with
  | rxload d => rcases exec_rxload_next h with rfl | ⟨-, rfl⟩ <;> rfl
  | verify =>
    cases h
    rw [verifyBytes_spec]
    rfl
  | validate => cases h; exact validateBytes_writesOnly _ s
  | decode =>
    cases h
    rw [decodeChecked_spec]
    rfl
  | readmeas => cases h; exact exchange_writesOnly s
  | csum | pack | cmdframeReadMeasure | cmdframeCalibration | cmdframeAbcParameterCheck
  | cmdframeAbcParameterSet => cases h; rfl

/-- An instruction keeps the parameters, the host's queue, and the phase IDLE. -/
theorem WritesOnly.frame {i : Instr} {s t : State} (h : WritesOnly s t i) :
    t.cfg = s.cfg ∧ t.inputs = s.inputs ∧ (s.phase = .idle → t.phase = .idle) := by
  cases i with
  | readmeas =>
    obtain ⟨-, hcfg, hinputs, hphase⟩ := h
    exact ⟨hcfg, hinputs, fun _ => hphase⟩
  | csum | verify | pack | rxload | validate | decode | cmdframeReadMeasure | cmdframeCalibration
  | cmdframeAbcParameterCheck | cmdframeAbcParameterSet =>
    rw [h]
    exact ⟨rfl, rfl, id⟩

/-- Settles O46: each register, read off the table of what each instruction writes. -/
theorem registersHaveOnlyTheirWriters : Obligations.RegistersHaveOnlyTheirWriters := by
  intro i s t h
  have hw := exec_writesOnly h
  cases i with
  | readmeas =>
    obtain ⟨hcsum, -⟩ := hw
    simp [hcsum]
  | csum | verify | pack | rxload | validate | decode | cmdframeReadMeasure | cmdframeCalibration
  | cmdframeAbcParameterCheck | cmdframeAbcParameterSet =>
    rw [hw]
    simp [Instr.format]

/-- Settles O50: a step leaves the parameters alone by each of its branches. -/
theorem parametersAreFixed : Obligations.ParametersAreFixed := by
  intro s t h
  rcases step_next h with ⟨-, rfl⟩ | ⟨rest, -, rfl⟩ | ⟨reg, rest, -, -, rfl⟩ | ⟨_, _, rest, i, -, -, -, he⟩ |
    ⟨_, _, rest, why, -, -, -, rfl⟩
  · rfl
  · rfl
  · rfl
  · obtain ⟨hcfg, -, -⟩ := (exec_writesOnly he).frame
    exact hcfg
  · rfl

/-! The invariant, with STATUS and the phase set apart, so that one rule per shared operation serves every
instruction and every phase of READMEAS. -/

/-- `s` meets the parts of the invariant that speak neither of STATUS nor of the phase: with STATUS OK and the phase
IDLE it meets them all. -/
def State.RegsInv (s : State) : Prop :=
  ((s.setStatus statusOk).setPhase .idle).Inv

theorem State.inv_iff (s : State) : s.Inv ↔ StatusShape s.status ∧ s.phase = .idle ∧ s.RegsInv := by
  constructor
  · intro h
    have hr : s.RegsInv := { h with
      status_reserved := statusOk_shape.reserved
      status_code := statusOk_shape.code
      status_cause := statusOk_shape.cause
      phase_idle := rfl }
    exact ⟨⟨h.status_reserved, h.status_code, h.status_cause⟩, h.phase_idle, hr⟩
  · rintro ⟨hs, hp, h⟩
    exact { h with
      status_reserved := hs.reserved
      status_code := hs.code
      status_cause := hs.cause
      phase_idle := hp }

theorem State.Inv.regs {s : State} (h : s.Inv) : s.RegsInv :=
  (s.inv_iff.mp h).2.2

theorem lengthFits_le {policy : LengthPolicy} {len n : Nat} (h : lengthFits policy len n = true) : len + 3 ≤ n := by
  cases policy with
  | exact =>
    simp only [lengthFits, beq_iff_eq] at h
    omega
  | bounds =>
    simp only [lengthFits, Bool.and_eq_true, decide_eq_true_eq] at h
    omega

/-- An accepted frame is four bytes longer than its payload at least, under either length policy. -/
theorem accepted_length {cfg : Config} {f : List Byte} {plen : Nat} (h : validateFrame cfg f = .accepted plen) :
    plen + 4 ≤ f.length := by
  obtain ⟨m, len, x, y, rest, rfl, -, hl, rfl⟩ := validateFrame_accepted h
  have hfit := lengthFits_le hl
  simp only [List.length_cons] at hfit ⊢
  omega

@[simp] theorem frameInBuffer_length (s : State) : (frameInBuffer s).length = s.rxcount.toNat :=
  Memory.unitReadBytes_length _ _

namespace State.RegsInv

variable {s : State}

theorem setStatus (h : s.RegsInv) (v : Byte) : (s.setStatus v).RegsInv := h

theorem setPhase (h : s.RegsInv) (p : Phase) : (s.setPhase p).RegsInv := h

theorem setCsumOut (h : s.RegsInv) (v : Option Byte) : (s.setCsumOut v).RegsInv := { h with }

theorem setInputs (h : s.RegsInv) (v : List Input) : (s.setInputs v).RegsInv := { h with }

theorem sameButTransport {q : State} (h : s.RegsInv) (hq : SameButTransport s q) : q.RegsInv := by
  obtain ⟨_, _, _, _, rfl⟩ := hq
  exact { h with }

theorem clearPayload (h : s.RegsInv) : (clearPayload s).RegsInv := { h with
  payload_accepted := fun hv => by cases hv
  payload_cleared := fun _ => rfl }

theorem setMeas (h : s.RegsInv) {v : Option Int} (hv : ∀ m, v = some m → 0 ≤ m ∧ m ≤ 65535) :
    (s.setMeas v).RegsInv := { h with meas_range := hv }

/-- A frame that PACK builds fills TXFRAME (R23). -/
theorem putFrame (h : s.RegsInv) (cmd : Command) : (putFrame (commandFrame s.cfg cmd) s).RegsInv :=
  have ⟨_, (h4 : s.cfg.cmdFrameBytes = 4), _⟩ := (Config.sized_iff _).mp h.cfg_sized
  { h with
    txframe_wf := Memory.writeBytes_wf _ _ h.txframe_wf (Nat.le_of_eq h4.symm)
    txframe_built := .inr ⟨congrArg (BitVec.ofNat 3) h4, cmd, Memory.readBytes_writeBytes _ _ 0⟩ }

/-- An exchange that brought nothing leaves no byte counted, so none without a value. -/
theorem noBytes (h : s.RegsInv) (hv : s.payloadValid = false) : (s.setRxcount 0).RegsInv := { h with
  rxcount_le := Nat.zero_le _
  frame_valued := fun _ ha => absurd ha (Nat.not_lt_zero _)
  payload_accepted := fun hv' => absurd (hv.symm.trans hv') Bool.false_ne_true }

/-- Bytes that fit the buffer all hold values once they are loaded (R21, R22). -/
theorem loadBytes (h : s.RegsInv) (hv : s.payloadValid = false) {d : List Byte}
    (hl : d.length ≤ s.cfg.rxbufSize) : (loadBytes d s).RegsInv :=
  have ⟨_, _, (hsize : s.cfg.rxbufSize ≤ 11), _⟩ := (Config.sized_iff _).mp h.cfg_sized
  have hcount : (BitVec.ofNat 4 d.length).toNat = d.length := rxcount_toNat (by omega)
  { h with
    rxbuf_wf := Memory.writeBytes_wf d _ h.rxbuf_wf ((Nat.zero_add _).trans_le hl)
    rxcount_le := hcount.trans_le hl
    frame_valued := fun a ha => by
      have hd : a < d.length := hcount ▸ ha
      refine ⟨d[a], ?_⟩
      have hread := Memory.read_writeBytes_inside d s.rxbuf (a := 0) hd
      rwa [Nat.zero_add, List.getElem?_eq_getElem hd] at hread
    payload_accepted := fun hv' => absurd (hv.symm.trans hv') Bool.false_ne_true }

/-- The payload of an accepted frame in the buffer is short enough for PLEN (R26). -/
theorem accepted_plen (h : s.RegsInv) {plen : Nat}
    (hv : validateFrame s.cfg (frameInBuffer s) = .accepted plen) : (BitVec.ofNat 3 plen).toNat = plen := by
  have hlen := accepted_length hv
  have hcount : s.rxcount.toNat ≤ s.cfg.rxbufSize := h.rxcount_le
  obtain ⟨-, -, (hsize : s.cfg.rxbufSize ≤ 11), -, -⟩ := (Config.sized_iff _).mp h.cfg_sized
  rw [frameInBuffer_length] at hlen
  rw [BitVec.toNat_ofNat]
  omega

theorem acceptPayload (h : s.RegsInv) {plen : Nat}
    (hv : validateFrame s.cfg (frameInBuffer s) = .accepted plen) : (acceptPayload plen s).RegsInv := { h with
  payload_accepted := fun _ => hv.trans (congrArg Verdict.accepted (h.accepted_plen hv).symm)
  payload_cleared := fun hv' => by cases hv' }

theorem decodePayload (h : s.RegsInv) (hi lo : Byte) : (decodePayload hi lo s).RegsInv := by
  obtain ⟨hbits, -, -, -, hmeas⟩ := (Config.sized_iff _).mp h.cfg_sized
  unfold Machine.decodePayload
  split
  · exact h.setStatus _
  · refine (h.setMeas fun m hm => ?_).setStatus _
    cases hm
    exact measurementOf_range hbits hmeas hi lo

/-! The units. -/

theorem verifyBytes (h : s.RegsInv) (f : List Byte) : (verifyBytes f s).RegsInv := by
  rw [verifyBytes_spec]
  exact h.setStatus _

theorem loadReceived (h : s.RegsInv) {d : List Byte} (hl : d.length ≤ s.cfg.rxbufSize) :
    (loadReceived d s).RegsInv :=
  (h.clearPayload.loadBytes rfl hl).setStatus _

theorem validateBytes (h : s.RegsInv) : (validateBytes (frameInBuffer s) s).RegsInv := by
  cases hv : validateFrame s.cfg (frameInBuffer s) with
  | accepted plen =>
    rw [validateBytes_accepted hv]
    exact (h.acceptPayload hv).setStatus _
  | rejected e =>
    rw [validateBytes_rejected hv]
    exact h.clearPayload.setStatus _

theorem decodeChecked (h : s.RegsInv) (hi lo : Byte) : (decodeChecked hi lo s).RegsInv := by
  have hnone : (s.setMeas none).RegsInv := h.setMeas fun m hm => by cases hm
  unfold Machine.decodeChecked
  split
  · exact hnone.setStatus _
  · exact hnone.decodePayload hi lo

theorem encodedExchange (h : s.RegsInv) : (encodedExchange s).RegsInv :=
  ((h.setMeas fun m hm => by cases hm).clearPayload.setPhase _).putFrame .readMeasure

theorem exchangeEnds {q t : State} (h : q.RegsInv) (hv : q.payloadValid = false) (ht : ExchangeEnds q t) :
    t.RegsInv := by
  cases ht with
  | failed cause => exact ((h.noBytes hv).setStatus _).setPhase _
  | rejected hl _ => exact ((h.loadBytes hv hl).setStatus _).setPhase _
  | accepted hl hacc =>
    exact ((((h.loadBytes hv hl).acceptPayload hacc).setPhase _).decodePayload _ _).setPhase _

/-- READMEAS has no payload marked valid while it waits, so bytes may be loaded or dropped. -/
theorem exchange (h : s.RegsInv) : (exchange s).RegsInv := by
  obtain ⟨q, hq, hends⟩ := exchange_ends s
  have hclear : q.payloadValid = false := by
    obtain ⟨_, _, _, _, rfl⟩ := hq
    rfl
  exact (h.encodedExchange.sameButTransport hq).exchangeEnds hclear hends

theorem exec {i : Instr} {t : State} (h : s.RegsInv) (he : exec i s = .next t) : t.RegsInv := by
  cases i with
  | csum data => cases he; exact (h.setCsumOut _).setStatus _
  | verify => cases he; exact h.verifyBytes _
  | pack cmd => cases he; exact (h.putFrame cmd).setStatus _
  | rxload d =>
    rcases exec_rxload_next he with rfl | ⟨hl, rfl⟩
    · exact h.setStatus _
    · exact h.loadReceived hl
  | validate => cases he; exact h.validateBytes
  | decode => cases he; exact h.decodeChecked _ _
  | readmeas => cases he; exact h.exchange
  | cmdframeReadMeasure | cmdframeCalibration | cmdframeAbcParameterCheck | cmdframeAbcParameterSet =>
    cases he
    exact (h.putFrame _).setStatus _

end State.RegsInv

/-! The whole invariant, kept by each branch of a step. -/

theorem exec_inv {i : Instr} {s t : State} (h : s.Inv) (he : exec i s = .next t) : t.Inv := by
  obtain ⟨-, -, hphase⟩ := (exec_writesOnly he).frame
  exact t.inv_iff.mpr ⟨(exec_endStatus he).shape, hphase h.phase_idle, h.regs.exec he⟩

theorem State.Inv.setInputs {s : State} (h : s.Inv) (v : List Input) : (s.setInputs v).Inv := { h with }

theorem raise_inv {s : State} (h : s.Inv) (e : RequestError) : (raise e s).Inv :=
  (State.inv_iff _).mpr ⟨statusOfError_shape e, h.phase_idle, h.regs.setStatus _⟩

/-- A reset meets the invariant whatever the block did before, as long as its parameters fit. -/
theorem resetBlock_inv {s : State} (h : s.cfg.sized = true) : (resetBlock s).Inv where
  cfg_sized := h
  status_reserved := statusIdle_shape.reserved
  status_code := statusIdle_shape.code
  status_cause := statusIdle_shape.cause
  phase_idle := rfl
  rxbuf_wf := rfl
  rxcount_le := Nat.zero_le _
  frame_valued := fun _ ha => absurd ha (Nat.not_lt_zero _)
  txframe_wf := rfl
  txframe_built := .inl ⟨rfl, rfl⟩
  payload_accepted := fun hv => by cases hv
  payload_cleared := fun _ => rfl
  meas_range := fun m hm => by cases hm

/-- Settles O51: the reset state is a reset of itself, and the default parameters fit. -/
theorem invariantHoldsAtReset : Obligations.InvariantHoldsAtReset :=
  resetBlock_inv (s := State.reset) Config.default_sized

/-- Settles O52: nothing, a reset, a register read, an instruction and an illegal request each keep it. -/
theorem stepKeepsTheInvariant : Obligations.StepKeepsTheInvariant := by
  intro s t h hstep
  rcases step_next hstep with ⟨-, rfl⟩ | ⟨rest, -, rfl⟩ | ⟨reg, rest, -, -, rfl⟩ |
    ⟨_, _, rest, i, -, -, -, he⟩ | ⟨_, _, rest, why, -, -, -, rfl⟩
  · exact h
  · exact resetBlock_inv h.cfg_sized
  · exact h.setInputs rest
  · exact exec_inv (h.setInputs rest) he
  · exact raise_inv (h.setInputs rest) .illegalOp

/-! Every instruction completes, and no unit reads a byte without a value (R21; 43_frame_decoder.md R173). -/

theorem exec_completes (i : Instr) (s : State) : Completes (exec i s) := by
  cases i with
  | rxload d =>
    simp only [exec, execRxload]
    split
    · exact ⟨_, rfl⟩
    · exact ⟨_, rfl⟩
  | csum | verify | pack | validate | decode | readmeas | cmdframeReadMeasure | cmdframeCalibration
  | cmdframeAbcParameterCheck | cmdframeAbcParameterSet => exact ⟨_, rfl⟩

/-- The two payload bytes that DECODE reads lie inside the frame. -/
theorem State.Inv.payload_below_rxcount {s : State} (h : s.Inv) (hv : s.payloadValid = true)
    (hp : 2 ≤ s.plen.toNat) : s.cfg.payloadOffset + 1 < s.rxcount.toNat := by
  have hlen := accepted_length (h.payload_accepted hv)
  obtain ⟨-, -, -, hoff, -⟩ := (Config.sized_iff _).mp h.cfg_sized
  rw [frameInBuffer_length] at hlen
  omega

/-- Settles O53: no arm of `exec` stops, and the invariant speaks of the bytes a frame unit reads. -/
theorem everyInstructionCompletesUnderTheInvariant : Obligations.EveryInstructionCompletesUnderTheInvariant := by
  intro i s
  obtain ⟨t, ht⟩ := exec_completes i s
  exact ⟨⟨t, ht⟩, fun h => ⟨⟨t, ht, exec_inv h ht⟩, h.frame_valued, h.payload_below_rxcount⟩⟩

/-- Below RXCOUNT a unit reads the byte that stands there, so any number would do for one without a value. -/
theorem State.Inv.unitRead_eq_getD {s : State} (h : s.Inv) (u : Byte) {a : Nat} (ha : a < s.rxcount.toNat) :
    Memory.unitRead s.rxbuf a = (Memory.read s.rxbuf a).getD u := by
  obtain ⟨b, hb⟩ := h.frame_valued a ha
  rw [Memory.unitRead_of_read hb, hb, Option.getD_some]

theorem State.Inv.frameInBuffer_eq_getD {s : State} (h : s.Inv) (u : Nat → Byte) {f : List Byte}
    (hl : f.length = s.rxcount.toNat)
    (hf : ∀ a, a < s.rxcount.toNat → f[a]? = some ((Memory.read s.rxbuf a).getD (u a))) : frameInBuffer s = f :=
  frameInBuffer_eq hl fun a ha => by
    obtain ⟨b, hb⟩ := h.frame_valued a ha
    rw [hf a ha, hb, Option.getD_some]

/-- DECODE looks at its two bytes only when a payload of two bytes is valid. -/
theorem decodeChecked_congr {hi lo hi' lo' : Byte} {s : State}
    (h : s.payloadValid = true → 2 ≤ s.plen.toNat → hi = hi' ∧ lo = lo') :
    decodeChecked hi lo s = decodeChecked hi' lo' s := by
  by_cases hv : s.payloadValid = true
  · by_cases hp : s.plen.toNat < 2
    · simp [decodeChecked_spec, hp]
    · obtain ⟨rfl, rfl⟩ := h hv (by omega)
      rfl
  · simp [decodeChecked_spec, hv]

/-- Settles O38: the frame lies below RXCOUNT, and so do the payload bytes whenever DECODE looks at them. -/
theorem noValueIsNeverReadAsANumber : Obligations.NoValueIsNeverReadAsANumber := by
  intro s u h
  constructor
  · intro f hl hf
    obtain rfl := h.frameInBuffer_eq_getD u hl hf
    exact ⟨rfl, rfl⟩
  · refine congrArg Host.Outcome.next (decodeChecked_congr fun hv hp => ?_)
    have hlow := h.payload_below_rxcount hv hp
    exact ⟨h.unitRead_eq_getD _ (by omega), h.unitRead_eq_getD _ hlow⟩

/-! What a host read delivers (R31). -/

theorem deliverFrom_some {m : Memory} {size a : Nat} {b : Byte} (ha : a < size) (hb : Memory.read m a = some b) :
    deliverFrom m size a = .ok (.byte b) := by
  simp [deliverFrom, deliverByte, ha, hb]

theorem deliverFrom_none {m : Memory} {size a : Nat} (ha : a < size) (hn : Memory.read m a = none) :
    deliverFrom m size a = .error .noValueRead := by
  simp [deliverFrom, deliverByte, ha, hn]

/-- Settles O11: the registers that always hold a value by definition, the others by whether they hold one. -/
theorem hostReadsEveryRegister : Obligations.HostReadsEveryRegister := fun _ =>
  ⟨rfl, rfl, rfl, rfl, rfl, rfl, fun _ hb => congrArg deliverByte hb, fun hn => congrArg deliverByte hn,
    fun _ _ => deliverFrom_some, fun _ => deliverFrom_none, fun _ _ => deliverFrom_some, fun _ => deliverFrom_none⟩

end Sys2Proof.Machine
end

section
/-! PROOFS, 20_memory.md: RXBUF is written from index 0 up and never cleared, VERIFY, VALIDATE and DECODE repeat
without effect, and what the step of an instruction and of a host read does. -/

namespace Sys2Proof.Machine

/-! The writes of RXBUF (R54). -/

/-- From `s` to `t` the bytes of `d` were put in RXBUF from index 0 up, and RXCOUNT counts them: what `loadBytes`
does to the receive buffer, whatever else has changed. -/
def LoadsBytes (d : List Byte) (s t : State) : Prop :=
  t.rxbuf = Memory.writeBytes s.rxbuf 0 d ∧ t.rxcount = BitVec.ofNat 4 d.length

theorem loadBytes_loads (d : List Byte) (s : State) : LoadsBytes d s (loadBytes d s) :=
  ⟨rfl, rfl⟩

theorem loadReceived_loads (d : List Byte) (s : State) : LoadsBytes d s (loadReceived d s) :=
  ⟨rfl, rfl⟩

theorem LoadsBytes.read_below {d : List Byte} {s t : State} (h : LoadsBytes d s t) {a : Nat} (ha : a < d.length) :
    Memory.read t.rxbuf a = d[a]? := by
  obtain ⟨hbuf, -⟩ := h
  rw [hbuf, Memory.read_writeBytes, if_pos (by omega), Nat.sub_zero]

/-- Where RXCOUNT can count the bytes, they all lie below it. -/
theorem LoadsBytes.read_above {d : List Byte} {s t : State} (h : LoadsBytes d s t) (hl : d.length ≤ 15) {a : Nat}
    (ha : t.rxcount.toNat ≤ a) : Memory.read t.rxbuf a = Memory.read s.rxbuf a := by
  obtain ⟨hbuf, hcount⟩ := h
  rw [hcount, rxcount_toNat hl] at ha
  rw [hbuf, Memory.read_writeBytes_outside _ _ (.inr (by omega))]

/-- A written byte is a value, so no write of the buffer takes one away. -/
theorem LoadsBytes.keeps_values {d : List Byte} {s t : State} (h : LoadsBytes d s t) {a : Nat} {b : Byte}
    (hb : Memory.read s.rxbuf a = some b) : ∃ c, Memory.read t.rxbuf a = some c := by
  by_cases ha : a < d.length
  · exact ⟨d[a], (h.read_below ha).trans (List.getElem?_eq_getElem ha)⟩
  · obtain ⟨hbuf, -⟩ := h
    exact ⟨b, by rw [hbuf, Memory.read_writeBytes_outside _ _ (.inr (by omega)), hb]⟩

/-- What comes after a load and writes neither RXBUF nor RXCOUNT does not matter. -/
theorem LoadsBytes.of_same {d : List Byte} {s t u : State} (h : LoadsBytes d s t)
    (hu : u.rxbuf = t.rxbuf ∧ u.rxcount = t.rxcount) : LoadsBytes d s u := by
  obtain ⟨hbuf, hcount⟩ := hu
  rwa [LoadsBytes, hbuf, hcount]

theorem decodePhase_receiveBuffer (s : State) :
    (decodePhase s).rxbuf = s.rxbuf ∧ (decodePhase s).rxcount = s.rxcount := by
  rw [decodePhase_spec]
  exact ⟨rfl, rfl⟩

/-- The VALIDATE phase, and the DECODE phase after it, read the receive buffer and do not write it. -/
theorem validatePhase_receiveBuffer (s : State) :
    (validatePhase s).rxbuf = s.rxbuf ∧ (validatePhase s).rxcount = s.rxcount := by
  cases hv : validateFrame s.cfg (frameInBuffer s) with
  | accepted plen =>
    rw [validatePhase_accepted s hv]
    exact decodePhase_receiveBuffer _
  | rejected e =>
    rw [validatePhase_rejected s hv]
    exact ⟨rfl, rfl⟩

theorem readPhase_loads {s : State} {d : List Byte} (h : readAnswer s = .data d) (hd : d ≠ []) :
    LoadsBytes d s (readPhase s) := by
  rw [readPhase_data s h hd]
  exact (loadBytes_loads d (askRead (s.setPhase .read))).of_same (validatePhase_receiveBuffer _)

theorem writePhase_loads {frame d : List Byte} {s : State} (hw : writeAnswer s = .ok)
    (hr : readAnswer (askWrite frame (s.setPhase .write)) = .data d) (hd : d ≠ []) :
    LoadsBytes d s (writePhase frame s) := by
  rw [writePhase_ok frame s hw]
  exact readPhase_loads hr hd

/-- The read is the question after the write. -/
theorem readAnswer_askWrite (frame : List Byte) (s : State) :
    readAnswer (askWrite frame s) = readAnswerFrom s.cfg.rxbufSize s.readAnswers (s.asked.length + 1) := by
  simp [readAnswer, askWrite]

/-- Up to the first question, READMEAS leaves alone the receive buffer and what passes between the block and the
transport. -/
theorem encodedExchange_frame (s : State) :
    (encodedExchange s).rxbuf = s.rxbuf ∧ (encodedExchange s).cfg = s.cfg ∧
      (encodedExchange s).writeAnswers = s.writeAnswers ∧ (encodedExchange s).readAnswers = s.readAnswers ∧
      (encodedExchange s).asked = s.asked := by
  simp [encodedExchange, encodePhase, putFrame, beginExchange, clearPayload]

theorem exchange_eq_writePhase (s : State) :
    exchange s = writePhase (commandFrame s.cfg .readMeasure) (encodedExchange s) := rfl

/-- The bytes that the transport answers with stand in RXBUF after the exchange. -/
theorem exchange_loads {s : State} {d : List Byte} (hw : writeAnswerFrom s.writeAnswers s.asked.length = .ok)
    (hr : readAnswerFrom s.cfg.rxbufSize s.readAnswers (s.asked.length + 1) = .data d) (hd : d ≠ []) :
    LoadsBytes d s (exchange s) := by
  obtain ⟨hbuf, hcfg, hwrites, hreads, hasked⟩ := encodedExchange_frame s
  have hwrite : writeAnswer (encodedExchange s) = .ok := by rwa [writeAnswer, hwrites, hasked]
  have hread : readAnswer (askWrite (commandFrame s.cfg .readMeasure) ((encodedExchange s).setPhase .write)) =
      .data d := by simpa [readAnswer_askWrite, hcfg, hreads, hasked] using hr
  rw [exchange_eq_writePhase]
  simpa only [LoadsBytes, hbuf] using writePhase_loads hwrite hread hd

theorem ExchangeEnds.receiveBuffer {q t : State} (h : ExchangeEnds q t) :
    t.rxbuf = q.rxbuf ∨ ∃ d : List Byte, d.length ≤ q.cfg.rxbufSize ∧ LoadsBytes d q t := by
  cases h with
  | failed cause => exact .inl rfl
  | @rejected d _ hl => exact .inr ⟨d, hl, loadBytes_loads d q⟩
  | @accepted d plen hl =>
    have hsame := decodePhase_receiveBuffer (acceptPayload plen (loadBytes d q))
    exact .inr ⟨d, hl, (loadBytes_loads d q).of_same hsame⟩

theorem exchange_receiveBuffer (s : State) : (exchange s).rxbuf = s.rxbuf ∨
    ∃ d : List Byte, d.length ≤ s.cfg.rxbufSize ∧ LoadsBytes d s (exchange s) := by
  obtain ⟨q, ⟨p, w, r, a, hq⟩, hends⟩ := exchange_ends s
  obtain ⟨hbuf, hcfg, -⟩ := encodedExchange_frame s
  have hqbuf : q.rxbuf = s.rxbuf := by rw [hq]; exact hbuf
  have hqcfg : q.cfg = s.cfg := by rw [hq]; exact hcfg
  simpa only [LoadsBytes, hqbuf, hqcfg] using hends.receiveBuffer

/-- What any instruction does to RXBUF: nothing, or it loads bytes that fit. -/
theorem exec_receiveBuffer {i : Instr} {s t : State} (h : exec i s = .next t) :
    t.rxbuf = s.rxbuf ∨ ∃ d : List Byte, d.length ≤ s.cfg.rxbufSize ∧ LoadsBytes d s t := by
  have hw := exec_writesOnly h
  cases i with
  | rxload d =>
    rcases exec_rxload_next h with rfl | ⟨hl, rfl⟩
    · exact .inl rfl
    · exact .inr ⟨d, hl, loadReceived_loads d s⟩
  | readmeas =>
    cases h
    exact exchange_receiveBuffer s
  | csum | verify | pack | validate | decode | cmdframeReadMeasure | cmdframeCalibration
  | cmdframeAbcParameterCheck | cmdframeAbcParameterSet =>
    rw [hw]
    exact .inl rfl

theorem exec_rxload_loads {d : List Byte} {s t : State} (hwf : (Instr.rxload d).wellFormed s.cfg = true)
    (h : exec (.rxload d) s = .next t) : LoadsBytes d s t := by
  have hfits : ¬ d.length > s.cfg.rxbufSize := by
    simp only [Instr.wellFormed, Bool.and_eq_true, decide_eq_true_eq] at hwf
    omega
  simp only [exec, execRxload, if_neg hfits] at h
  cases h
  exact loadReceived_loads d s

/-- Settles O47: the two writers load the bytes they are given, and whatever an instruction does to RXBUF leaves
every index from RXCOUNT up alone and takes no value away. -/
theorem receiveBufferIsNeverCleared : Obligations.ReceiveBufferIsNeverCleared := by
  intro i s t hsized hwf h
  obtain ⟨-, -, hsize, -, -⟩ := (Config.sized_iff _).mp hsized
  refine ⟨?_, ?_, fun a ha => ?_, fun a b hb => ?_⟩
  · rintro d rfl a ha
    exact (exec_rxload_loads hwf h).read_below ha
  · rintro d rfl hwrite hread a ha
    cases h
    exact (exchange_loads hwrite hread (List.ne_nil_of_length_pos (by omega))).read_below ha
  · rcases exec_receiveBuffer h with hsame | ⟨d, hl, hloads⟩
    · rw [hsame]
    · exact hloads.read_above (by omega) ha
  · rcases exec_receiveBuffer h with hsame | ⟨d, -, hloads⟩
    · exact ⟨b, hsame ▸ hb⟩
    · exact hloads.keeps_values hb

/-! Repeated checks (R45): none of the three operations writes the bytes it reads. -/

theorem verifyBytes_idem (f : List Byte) (s : State) : verifyBytes f (verifyBytes f s) = verifyBytes f s := by
  simp only [verifyBytes_spec]

theorem frameInBuffer_verifyBytes (f : List Byte) (s : State) :
    frameInBuffer (verifyBytes f s) = frameInBuffer s := by
  rw [verifyBytes_spec]
  rfl

theorem validateBytes_idem (f : List Byte) (s : State) :
    validateBytes f (validateBytes f s) = validateBytes f s := by
  cases hv : validateFrame s.cfg f with
  | accepted plen =>
    rw [validateBytes_accepted hv]
    exact validateBytes_accepted hv
  | rejected e =>
    rw [validateBytes_rejected hv]
    exact validateBytes_rejected hv

theorem frameInBuffer_validateBytes (f : List Byte) (s : State) :
    frameInBuffer (validateBytes f s) = frameInBuffer s := by
  cases hv : validateFrame s.cfg f with
  | accepted plen =>
    rw [validateBytes_accepted hv]
    rfl
  | rejected e =>
    rw [validateBytes_rejected hv]
    rfl

theorem decodeChecked_idem (hi lo : Byte) (s : State) :
    decodeChecked hi lo (decodeChecked hi lo s) = decodeChecked hi lo s := by
  simp only [decodeChecked_spec]

theorem payload_decodeChecked (hi lo : Byte) (s : State) :
    payloadHigh (decodeChecked hi lo s) = payloadHigh s ∧ payloadLow (decodeChecked hi lo s) = payloadLow s := by
  rw [decodeChecked_spec]
  exact ⟨rfl, rfl⟩

/-- Settles O49: each check reads the same bytes the second time, and is idempotent on the same bytes. -/
theorem repeatedChecksAreIdempotent : Obligations.RepeatedChecksAreIdempotent := by
  rintro i s t (rfl | rfl | rfl) h
  · cases h
    rw [exec, execVerify, frameInBuffer_verifyBytes, verifyBytes_idem]
  · cases h
    rw [exec, execValidate, frameInBuffer_validateBytes, validateBytes_idem]
  · cases h
    obtain ⟨hhi, hlo⟩ := payload_decodeChecked (payloadHigh s) (payloadLow s) s
    rw [exec, execDecode, hhi, hlo, decodeChecked_idem]

/-! The host's moves (R40, R45, R48). -/

/-- Settles O6: the decoder's answer picks the branch of the step. -/
theorem stepRunsTheDecodedInstruction : Obligations.StepRunsTheDecodedInstruction := by
  intro s fmt bytes rest i hi hp hd
  rw [step_issue hi hp, hd]
  rfl

theorem deliverFrom_outside {m : Memory} {size a : Nat} (ha : size ≤ a) :
    deliverFrom m size a = .error .noSuchByte :=
  if_neg (Nat.not_lt.mpr ha)

/-- Settles O55: neither space has a byte at or above its size. -/
theorem hostReadOutsideTheSpacesFaults : Obligations.HostReadOutsideTheSpacesFaults := fun _ _ =>
  ⟨deliverFrom_outside, deliverFrom_outside⟩

/-- What a host read delivers does not depend on the moves that come after it. -/
theorem hostRead_setInputs (reg : HostReg) (s : State) (rest : List Input) :
    hostRead reg (s.setInputs rest) = hostRead reg s := by
  cases reg <;> rfl

theorem step_readReg_ok {s : State} {reg : HostReg} {rest : List Input} {v : RegValue}
    (hi : s.inputs = .readReg reg :: rest) (hp : s.phase = .idle) (h : hostRead reg s = .ok v) :
    step s = .next (s.setInputs rest) := by
  rw [step_readReg hi hp, hostReadMove, hostRead_setInputs, h]

theorem step_readReg_error {s : State} {reg : HostReg} {rest : List Input} {f : Fault}
    (hi : s.inputs = .readReg reg :: rest) (hp : s.phase = .idle) (h : hostRead reg s = .error f) :
    step s = .fault f := by
  rw [step_readReg hi hp, hostReadMove, hostRead_setInputs, h]

/-- A register that is no byte of a space and not CSUM_OUT always delivers a value (10_state.md R28). -/
theorem hostRead_always_ok {reg : HostReg} (s : State) (hrx : ∀ a, reg ≠ .rxbuf a) (htx : ∀ a, reg ≠ .txframe a)
    (hc : reg ≠ .csumOut) : ∃ v, hostRead reg s = .ok v := by
  cases reg with
  | rxbuf a => exact absurd rfl (hrx a)
  | txframe a => exact absurd rfl (htx a)
  | csumOut => exact absurd rfl hc
  | status | rxcount | txlen | payloadValid | plen | meas => exact ⟨_, rfl⟩

/-- Settles O10: a step on a register read is decided by what the read delivers, and each clause says what that is. -/
theorem hostReadHasNoSideEffect : Obligations.HostReadHasNoSideEffect := by
  intro s reg rest hi hp
  refine ⟨fun v hv => step_readReg_ok hi hp hv, ?_, ?_, ?_, ?_, ?_, fun hrx htx hc => ?_⟩
  · rintro a rfl ha hn
    exact step_readReg_error hi hp (deliverFrom_none ha hn)
  · rintro a rfl ha hn
    exact step_readReg_error hi hp (deliverFrom_none ha hn)
  · rintro rfl hn
    exact step_readReg_error hi hp (congrArg deliverByte hn)
  · rintro a rfl ha
    exact step_readReg_error hi hp (deliverFrom_outside ha)
  · rintro a rfl ha
    exact step_readReg_error hi hp (deliverFrom_outside ha)
  · obtain ⟨v, hv⟩ := hostRead_always_ok s hrx htx hc
    exact step_readReg_ok hi hp hv

end Sys2Proof.Machine
end

section
/-! PROOFS, 30_encoding.md: the decoder and the encoder invert each other, which control bytes start a request, what
an illegal request does, and the words of the opcode table. -/

namespace Sys2Proof

open Machine

/-! The control byte (R61, R62, R73). -/

/-- The control bytes that R62 gives the seven operations, one for each operation and, for PACK, each Command. -/
inductive LegalCtrl : Byte → Prop
  | csum : LegalCtrl (ctrlByte 0 0)
  | verify : LegalCtrl (ctrlByte 1 0)
  | pack (cmd : Command) : LegalCtrl (ctrlByte 2 (commandField cmd))
  | rxload : LegalCtrl (ctrlByte 3 0)
  | validate : LegalCtrl (ctrlByte 4 0)
  | decode : LegalCtrl (ctrlByte 5 0)
  | readmeas : LegalCtrl (ctrlByte 6 0)

theorem operation_cases {op : BitVec 3} (h : op ≠ 7) :
    op = 0 ∨ op = 1 ∨ op = 2 ∨ op = 3 ∨ op = 4 ∨ op = 5 ∨ op = 6 := by
  revert op
  decide

/-- An OP other than 7 makes a legal control byte, with any Command for PACK and with CMD = 0 for the others. -/
theorem legalCtrl_ctrlByte {op : BitVec 3} {cmd : BitVec 2} (hop : op ≠ 7) (hcmd : op = 2 ∨ cmd = 0) :
    LegalCtrl (ctrlByte op cmd) := by
  rcases hcmd with rfl | rfl
  · rw [← commandField_commandOfField cmd]
    exact .pack _
  · rcases operation_cases hop with rfl | rfl | rfl | rfl | rfl | rfl | rfl
    exacts [.csum, .verify, .pack .readMeasure, .rxload, .validate, .decode, .readmeas]

/-- A control byte is legal exactly when the conditions of R65 on its three fields all fail. -/
theorem legalCtrl_iff_fields (ctrl : Byte) :
    LegalCtrl ctrl ↔ ctrlRsv ctrl = 0 ∧ ctrlOp ctrl ≠ 7 ∧ (ctrlOp ctrl = 2 ∨ ctrlCmd ctrl = 0) := by
  constructor
  · intro h
    cases h with
    | pack cmd =>
      obtain ⟨hop, -, hrsv⟩ := ctrlByte_fields 2 (commandField cmd)
      exact ⟨hrsv, by rw [hop]; decide, .inl hop⟩
    | csum | verify | rxload | validate | decode | readmeas => decide
  · rintro ⟨hrsv, hop, hcmd⟩
    rw [← ctrlByte_of_fields ctrl hrsv]
    exact legalCtrl_ctrlByte hop hcmd

/-- RXLOAD has one control byte. -/
theorem LegalCtrl.eq_rxload {ctrl : Byte} (h : LegalCtrl ctrl) (hop : ctrlOp ctrl = 3) : ctrl = ctrlByte 3 0 := by
  obtain ⟨hrsv, -, hcmd⟩ := (legalCtrl_iff_fields ctrl).mp h
  rw [← ctrlByte_of_fields ctrl hrsv, hop, hcmd.resolve_left (by rw [hop]; decide)]

/-- The legal control bytes as R62 lists them. -/
theorem legalCtrl_iff_mem (ctrl : Byte) :
    LegalCtrl ctrl ↔ ctrl ∈ ([0x00, 0x01, 0x02, 0x03, 0x04, 0x05, 0x06, 0x0A, 0x12, 0x1A] : List Byte) := by
  rw [legalCtrl_iff_fields]
  revert ctrl
  decide

/-- An illegal control byte decides the request before any byte after it is looked at (R65, R73). -/
theorem decodeRequest_illegalCtrl (cfg : Config) {ctrl : Byte} (h : ¬ LegalCtrl ctrl) :
    ∃ why, ∀ rest, decodeRequest cfg (ctrl :: rest) = .illegal why := by
  by_cases hrsv : ctrlRsv ctrl = 0
  · by_cases hop : ctrlOp ctrl = 7
    · exact ⟨.opReserved, fun _ => (if_neg (not_not.mpr hrsv)).trans (if_pos hop)⟩
    · have hcmd : ctrlOp ctrl ≠ 2 ∧ ctrlCmd ctrl ≠ 0 := by
        rw [← not_or]
        exact fun hc => h ((legalCtrl_iff_fields ctrl).mpr ⟨hrsv, hop, hc⟩)
      exact ⟨.cmdNonzero, fun _ =>
        (if_neg (not_not.mpr hrsv)).trans ((if_neg hop).trans (if_pos hcmd))⟩
  · exact ⟨.rsvNonzero, fun _ => if_pos hrsv⟩

/-! What the decoder does after each legal control byte. -/

theorem decodeRequest_csum (cfg : Config) (rest : List Byte) :
    decodeRequest cfg (ctrlByte 0 0 :: rest) = decodeCsumBlock cfg rest := rfl

theorem decodeRequest_verify (cfg : Config) (rest : List Byte) :
    decodeRequest cfg (ctrlByte 1 0 :: rest) = decodeAlone .verify rest := rfl

theorem decodeRequest_pack (cfg : Config) (cmd : Command) (rest : List Byte) :
    decodeRequest cfg (ctrlByte 2 (commandField cmd) :: rest) = decodeAlone (.pack cmd) rest := by
  cases cmd <;> rfl

theorem decodeRequest_rxload (cfg : Config) (rest : List Byte) :
    decodeRequest cfg (ctrlByte 3 0 :: rest) = decodeRxloadBlock cfg rest := rfl

theorem decodeRequest_validate (cfg : Config) (rest : List Byte) :
    decodeRequest cfg (ctrlByte 4 0 :: rest) = decodeAlone .validate rest := rfl

theorem decodeRequest_decode (cfg : Config) (rest : List Byte) :
    decodeRequest cfg (ctrlByte 5 0 :: rest) = decodeAlone .decode rest := rfl

theorem decodeRequest_readmeas (cfg : Config) (rest : List Byte) :
    decodeRequest cfg (ctrlByte 6 0 :: rest) = decodeAlone .readmeas rest := rfl

/-! The operand blocks (R60, R64). -/

theorem decodeAlone_eq_instr {i j : Instr} {rest : List Byte} :
    decodeAlone i rest = .instr j ↔ i = j ∧ rest = [] := by
  cases rest <;> simp [decodeAlone]

/-- A count byte N that is at most `max` and counts the bytes after it is their number, which is at most `max` and
fits in a byte. -/
theorem count_iff {n : Byte} {data : List Byte} {max : Nat} :
    n.toNat ≤ max ∧ data.length = n.toNat ↔
      (data.length ≤ 255 ∧ data.length ≤ max) ∧ n = BitVec.ofNat 8 data.length := by
  constructor
  · rintro ⟨hmax, hlen⟩
    exact ⟨by omega, by simp [hlen]⟩
  · rintro ⟨⟨h255, hmax⟩, rfl⟩
    rw [BitVec.toNat_ofNat]
    omega

theorem wellFormed_csum {cfg : Config} {data : List Byte} :
    (Instr.csum data).wellFormed cfg = true ↔ data.length ≤ 255 ∧ data.length ≤ cfg.csumMaxLen := by
  simp [Instr.wellFormed]

theorem wellFormed_rxload {cfg : Config} {data : List Byte} :
    (Instr.rxload data).wellFormed cfg = true ↔ data.length ≤ 255 ∧ data.length ≤ cfg.rxbufSize := by
  simp [Instr.wellFormed]

theorem decodeCsumBlock_eq_instr {cfg : Config} {rest : List Byte} {i : Instr} :
    decodeCsumBlock cfg rest = .instr i ↔
      ∃ data, i = .csum data ∧ i.wellFormed cfg = true ∧ rest = BitVec.ofNat 8 data.length :: data := by
  constructor
  · intro h
    cases rest with
    | nil => cases h
    | cons n data =>
      simp only [decodeCsumBlock] at h
      split_ifs at h with hmax hlen
      cases h
      obtain ⟨hwf, hn⟩ := count_iff.mp ⟨Nat.not_lt.mp hmax, hlen⟩
      exact ⟨data, rfl, wellFormed_csum.mpr hwf, by rw [← hn]⟩
  · rintro ⟨data, rfl, hwf, rfl⟩
    obtain ⟨hmax, hlen⟩ := count_iff.mpr ⟨wellFormed_csum.mp hwf, rfl⟩
    exact (if_neg (Nat.not_lt.mpr hmax)).trans (if_pos hlen)

theorem decodeRxloadBlock_eq_instr {cfg : Config} {rest : List Byte} {i : Instr} :
    decodeRxloadBlock cfg rest = .instr i ↔
      ∃ data, i = .rxload data ∧ i.wellFormed cfg = true ∧ rest = BitVec.ofNat 8 data.length :: data := by
  constructor
  · intro h
    cases rest with
    | nil => cases h
    | cons n data =>
      simp only [decodeRxloadBlock] at h
      split_ifs at h with hmax hlen
      cases h
      obtain ⟨hwf, hn⟩ := count_iff.mp ⟨Nat.not_lt.mp hmax, hlen⟩
      exact ⟨data, rfl, wellFormed_rxload.mpr hwf, by rw [← hn]⟩
  · rintro ⟨data, rfl, hwf, rfl⟩
    obtain ⟨hmax, hlen⟩ := count_iff.mpr ⟨wellFormed_rxload.mp hwf, rfl⟩
    exact (if_neg (Nat.not_lt.mpr hmax)).trans (if_pos hlen)

/-- N > RXBUF_SIZE is illegal before any data byte is looked at (R65). -/
theorem decodeRxloadBlock_tooLong {cfg : Config} {n : Byte} (data : List Byte) (h : cfg.rxbufSize < n.toNat) :
    decodeRxloadBlock cfg (n :: data) = .illegal .rxloadTooLong :=
  if_pos h

/-! The command frames (R66, R67). -/

/-- The row of the opcode table that holds a Command's frame. -/
def cmdframeRow : Command → Instr
  | .readMeasure => .cmdframeReadMeasure
  | .calibration => .cmdframeCalibration
  | .abcParameterCheck => .cmdframeAbcParameterCheck
  | .abcParameterSet => .cmdframeAbcParameterSet

theorem cmdframeRow_encoding (cfg : Config) (cmd : Command) :
    (cmdframeRow cmd).wellFormed cfg = true ∧ (cmdframeRow cmd).format = .cmdframe32 ∧
      encode cfg (cmdframeRow cmd) = commandFrame cfg cmd := by
  cases cmd <;> exact ⟨rfl, rfl, rfl⟩

/-- An instruction of the frame format is a Command's row. -/
theorem exists_cmdframeRow {i : Instr} (h : i.format = .cmdframe32) : ∃ cmd, i = cmdframeRow cmd := by
  cases i with
  | csum | verify | pack | rxload | validate | decode | readmeas => cases h
  | cmdframeReadMeasure => exact ⟨.readMeasure, rfl⟩
  | cmdframeCalibration => exact ⟨.calibration, rfl⟩
  | cmdframeAbcParameterCheck => exact ⟨.abcParameterCheck, rfl⟩
  | cmdframeAbcParameterSet => exact ⟨.abcParameterSet, rfl⟩

theorem opcodeOf_inj {cfg : Config} (h : cfg.opcodesDistinct = true) {c d : Command} :
    opcodeOf cfg c = opcodeOf cfg d ↔ c = d := by
  simp only [Config.opcodesDistinct, Bool.and_eq_true, decide_eq_true_eq] at h
  cases c <;> cases d <;> simp [opcodeOf, h, Ne.symm]

/-- Frame byte 2 is the opcode, so distinct opcodes keep the four frames apart. -/
theorem commandFrame_inj {cfg : Config} (h : cfg.opcodesDistinct = true) {c d : Command} :
    commandFrame cfg c = commandFrame cfg d ↔ c = d := by
  refine ⟨fun hf => (opcodeOf_inj h).mp ?_, congrArg _⟩
  exact Option.some.inj (congrArg (·[2]?) hf)

theorem decodeCommandFrame_commandFrame {cfg : Config} (h : cfg.opcodesDistinct = true) (cmd : Command) :
    decodeCommandFrame cfg (commandFrame cfg cmd) = .instr (cmdframeRow cmd) := by
  cases cmd <;> simp [decodeCommandFrame, commandFrame_inj h, cmdframeRow]

theorem decodeCommandFrame_instr {cfg : Config} {bytes : List Byte} {i : Instr}
    (h : decodeCommandFrame cfg bytes = .instr i) : ∃ cmd, i = cmdframeRow cmd ∧ bytes = commandFrame cfg cmd := by
  unfold decodeCommandFrame at h
  split_ifs at h with hrm hcal hchk hset <;> cases h
  exacts [⟨.readMeasure, rfl, hrm⟩, ⟨.calibration, rfl, hcal⟩, ⟨.abcParameterCheck, rfl, hchk⟩,
    ⟨.abcParameterSet, rfl, hset⟩]

/-! The decoder and the encoder. -/

/-- The request channel gives a well-formed request back, whatever the opcode parameters are. -/
theorem decodeRequest_encode {cfg : Config} {i : Instr} (hf : i.format = .ctrl8) (hwf : i.wellFormed cfg = true) :
    decodeRequest cfg (encode cfg i) = .instr i := by
  cases i with
  | csum data => exact (decodeRequest_csum ..).trans (decodeCsumBlock_eq_instr.mpr ⟨data, rfl, hwf, rfl⟩)
  | rxload data => exact (decodeRequest_rxload ..).trans (decodeRxloadBlock_eq_instr.mpr ⟨data, rfl, hwf, rfl⟩)
  | verify => exact decodeRequest_verify cfg []
  | pack cmd => exact decodeRequest_pack cfg cmd []
  | validate => exact decodeRequest_validate cfg []
  | decode => exact decodeRequest_decode cfg []
  | readmeas => exact decodeRequest_readmeas cfg []
  | cmdframeReadMeasure | cmdframeCalibration | cmdframeAbcParameterCheck | cmdframeAbcParameterSet => cases hf

/-- Settles O1: each channel gives back what was encoded for it. -/
theorem decodeInvertsEncode : Obligations.DecodeInvertsEncode := by
  intro cfg i hdist hwf
  cases hf : i.format with
  | ctrl8 => exact decodeRequest_encode hf hwf
  | cmdframe32 =>
    obtain ⟨cmd, rfl⟩ := exists_cmdframeRow hf
    obtain ⟨-, -, henc⟩ := cmdframeRow_encoding cfg cmd
    rw [henc]
    exact decodeCommandFrame_commandFrame hdist cmd

/-- An operation without an operand block decodes only from its control byte alone. -/
theorem encode_of_decodeAlone {cfg : Config} {ctrl : Byte} {rest : List Byte} {i j : Instr}
    (hi : i.wellFormed cfg = true ∧ i.format = .ctrl8 ∧ encode cfg i = [ctrl])
    (h : decodeAlone i rest = .instr j) :
    j.wellFormed cfg = true ∧ j.format = .ctrl8 ∧ encode cfg j = ctrl :: rest := by
  obtain ⟨rfl, rfl⟩ := decodeAlone_eq_instr.mp h
  exact hi

/-- A decoded request is read in full: its control byte is a legal one, and its operand block the instruction's. -/
theorem encode_of_decodeRequest {cfg : Config} {bytes : List Byte} {i : Instr}
    (h : decodeRequest cfg bytes = .instr i) :
    i.wellFormed cfg = true ∧ i.format = .ctrl8 ∧ encode cfg i = bytes := by
  cases bytes with
  | nil => cases h
  | cons ctrl rest =>
    by_cases hl : LegalCtrl ctrl
    · cases hl with
      | csum =>
        rw [decodeRequest_csum] at h
        obtain ⟨data, rfl, hwf, rfl⟩ := decodeCsumBlock_eq_instr.mp h
        exact ⟨hwf, rfl, rfl⟩
      | rxload =>
        rw [decodeRequest_rxload] at h
        obtain ⟨data, rfl, hwf, rfl⟩ := decodeRxloadBlock_eq_instr.mp h
        exact ⟨hwf, rfl, rfl⟩
      | verify => exact encode_of_decodeAlone ⟨rfl, rfl, rfl⟩ ((decodeRequest_verify ..).symm.trans h)
      | pack cmd => exact encode_of_decodeAlone ⟨rfl, rfl, rfl⟩ ((decodeRequest_pack ..).symm.trans h)
      | validate => exact encode_of_decodeAlone ⟨rfl, rfl, rfl⟩ ((decodeRequest_validate ..).symm.trans h)
      | decode => exact encode_of_decodeAlone ⟨rfl, rfl, rfl⟩ ((decodeRequest_decode ..).symm.trans h)
      | readmeas => exact encode_of_decodeAlone ⟨rfl, rfl, rfl⟩ ((decodeRequest_readmeas ..).symm.trans h)
    · obtain ⟨why, hill⟩ := decodeRequest_illegalCtrl cfg hl
      rw [hill] at h
      cases h

/-- Settles O2: neither channel leaves a bit unread. -/
theorem encodeInvertsDecode : Obligations.EncodeInvertsDecode := by
  intro cfg fmt bytes i h
  cases fmt with
  | ctrl8 => exact encode_of_decodeRequest h
  | cmdframe32 =>
    obtain ⟨cmd, rfl, rfl⟩ := decodeCommandFrame_instr h
    exact cmdframeRow_encoding cfg cmd

/-- Every legal control byte is the first byte of a well-formed request: with an empty operand block, where it
takes one. -/
theorem LegalCtrl.starts_request {ctrl : Byte} (h : LegalCtrl ctrl) (cfg : Config) :
    ∃ rest i, i.format = .ctrl8 ∧ i.wellFormed cfg = true ∧ encode cfg i = ctrl :: rest := by
  cases h with
  | csum => exact ⟨[0], .csum [], rfl, wellFormed_csum.mpr ⟨Nat.zero_le _, Nat.zero_le _⟩, rfl⟩
  | verify => exact ⟨[], .verify, rfl, rfl, rfl⟩
  | pack cmd => exact ⟨[], .pack cmd, rfl, rfl, rfl⟩
  | rxload => exact ⟨[0], .rxload [], rfl, wellFormed_rxload.mpr ⟨Nat.zero_le _, Nat.zero_le _⟩, rfl⟩
  | validate => exact ⟨[], .validate, rfl, rfl, rfl⟩
  | decode => exact ⟨[], .decode, rfl, rfl, rfl⟩
  | readmeas => exact ⟨[], .readmeas, rfl, rfl, rfl⟩

/-- Settles O3: the ten values are the legal control bytes. -/
theorem tenControlBytesAreLegal : Obligations.TenControlBytesAreLegal := by
  intro cfg ctrl
  rw [← legalCtrl_iff_mem]
  refine ⟨fun h => ?_, decodeRequest_illegalCtrl cfg⟩
  obtain ⟨rest, i, hf, hwf, henc⟩ := h.starts_request cfg
  exact ⟨rest, i, henc ▸ decodeRequest_encode hf hwf⟩

/-! Illegal requests (R65). -/

/-- The four conditions of R65, as the decoder finds them. -/
theorem decodeRequest_illegal {cfg : Config} {ctrl : Byte} {tail : List Byte}
    (h : ctrlOp ctrl = 7 ∨ ctrlRsv ctrl ≠ 0 ∨ (ctrlOp ctrl ≠ 2 ∧ ctrlCmd ctrl ≠ 0) ∨
      (ctrlOp ctrl = 3 ∧ ∃ n data, tail = n :: data ∧ cfg.rxbufSize < n.toNat)) :
    ∃ why, decodeRequest cfg (ctrl :: tail) = .illegal why := by
  by_cases hl : LegalCtrl ctrl
  · obtain ⟨hrsv, hop, hcmd⟩ := (legalCtrl_iff_fields ctrl).mp hl
    rcases h with h7 | hr | hc | ⟨h3, n, data, rfl, hn⟩
    · exact absurd h7 hop
    · exact absurd hrsv hr
    · exact absurd hcmd (not_or.mpr hc)
    · obtain rfl := hl.eq_rxload h3
      exact ⟨_, (decodeRequest_rxload ..).trans (decodeRxloadBlock_tooLong data hn)⟩
  · obtain ⟨why, hill⟩ := decodeRequest_illegalCtrl cfg hl
    exact ⟨why, hill tail⟩

theorem step_illegal {s : State} {fmt : Format} {bytes : List Byte} {rest : List Input} {why : IllegalReason}
    (hi : s.inputs = .issue fmt bytes :: rest) (hp : s.phase = .idle)
    (hd : decodeBytes s.cfg fmt bytes = .illegal why) :
    step s = .next (raise .illegalOp (s.setInputs rest)) := by
  rw [step_issue hi hp, hd]
  rfl

/-- Settles O5: the decoder finds each condition of R65, and the step then writes STATUS alone. -/
theorem illegalRequestChangesOnlyStatus : Obligations.IllegalRequestChangesOnlyStatus := by
  intro s ctrl tail rest hi hp h
  obtain ⟨why, hd⟩ := decodeRequest_illegal h
  rw [step_illegal hi hp hd, raise_spec]
  rfl

/-! The words of the opcode table (R67, R72). -/

/-- Settles O4: closed words, each evaluated by the decoder. -/
theorem tableWordsDecode : Obligations.TableWordsDecode := by
  unfold Obligations.TableWordsDecode
  decide

theorem decodeTableWord_eq_some {nbits w : Nat} {i : Instr} :
    decodeTableWord nbits w = some i ↔ decodeBytes {} (tableFormat nbits) (tableBytes nbits w) = .instr i := by
  unfold decodeTableWord
  cases decodeBytes {} (tableFormat nbits) (tableBytes nbits w) <;> simp

/-- Settles O7: `withFetchWord` puts the word's bytes at the front of the queue, and the step takes them. -/
theorem fetchedTableWordRuns : Obligations.FetchedTableWordRuns := by
  intro s nbits w i hcfg h
  have hd : decodeBytes (s.withFetchWord nbits w).cfg (tableFormat nbits) (tableBytes nbits w) = .instr i := by
    rw [← decodeTableWord_eq_some.mp h, ← hcfg]
    rfl
  exact stepRunsTheDecodedInstruction _ _ _ s.inputs i rfl rfl hd

/-- Settles O21: the frames and the table's words, each evaluated. -/
theorem defaultCommandFrames : Obligations.DefaultCommandFrames := by
  unfold Obligations.DefaultCommandFrames
  decide

end Sys2Proof
end

section
/-! PROOFS, 40_checksum_verifier.md: the checksum as a negated sum and as a hardware reduction, its laws, what
checksum-valid means, and what CSUM and VERIFY do. -/

namespace Sys2Proof.Machine

/-! The checksum negates the sum (R100, R102). -/

/-- Law (b) of R102: the checksum is the one byte that brings the sum to 0. -/
theorem checksum_eq_iff {cfg : Config} (h : cfg.byteBits = 8) (s : List Byte) (c : Byte) :
    checksum cfg s = c ↔ (byteSum s + c.toNat) % 256 = 0 := by
  have hc := c.isLt
  rw [← BitVec.toNat_inj, checksum_toNat h]
  omega

/-- Settles O15: R100's wrapped form is the same number, and law (b) at the byte 0 is the zero case. -/
theorem checksumNegatesTheSum : Obligations.ChecksumNegatesTheSum := by
  intro cfg s h
  refine ⟨checksum_toNat h s, ?_, checksum_eq_iff h s 0⟩
  rw [checksum_toNat h]
  omega

/-! The hardware reduction (R101). -/

/-- The accumulator ends at the wrapped sum, whatever its width. -/
theorem checksumFold_eq {bits : Nat} (s : List Byte) (acc : BitVec bits) :
    checksumFold acc s = acc + BitVec.ofNat bits (byteSum s) := by
  induction s generalizing acc with
  | nil => simp [checksumFold]
  | cons b s ih =>
    rw [checksumFold, ih, byteSum_cons, BitVec.ofNat_add, BitVec.ofNat_toNat, BitVec.add_assoc]

/-- Complement and increment is negation, so the reduction is the checksum under any parameters. -/
theorem checksumReduction_eq (cfg : Config) (s : List Byte) : checksumReduction cfg s = checksum cfg s := by
  apply BitVec.eq_of_toNat_eq
  simp [checksumReduction, checksumFold_eq, ← BitVec.neg_eq_not_add, checksum, byteModulus]

/-- Addition does not see the order of the bytes. -/
theorem byteSum_perm {s t : List Byte} (h : s.Perm t) : byteSum s = byteSum t := by
  induction h with
  | nil => rfl
  | cons b _ ih => simp [ih]
  | swap a b s => simp [Nat.add_left_comm]
  | trans _ _ ih ih' => exact ih.trans ih'

/-- Law (d) of R102, under any parameters: the checksum depends on the wrapped sum only. -/
theorem checksum_congr {cfg : Config} {s t : List Byte}
    (h : byteSum s % byteModulus cfg = byteSum t % byteModulus cfg) : checksum cfg s = checksum cfg t := by
  rw [checksum, h, checksum]

theorem checksum_perm (cfg : Config) {s t : List Byte} (h : s.Perm t) : checksum cfg s = checksum cfg t :=
  checksum_congr (by rw [byteSum_perm h])

/-- Settles O16: the fold ends at the wrapped sum, which no reordering changes. -/
theorem reductionComputesTheChecksum : Obligations.ReductionComputesTheChecksum := by
  refine ⟨checksumReduction_eq, fun cfg s t h => ?_⟩
  rw [checksumReduction_eq, checksumReduction_eq, checksum_perm cfg h]

/-! The laws (R102). -/

/-- Law (c) of R102. -/
theorem checksum_append_toNat {cfg : Config} (h : cfg.byteBits = 8) (s t : List Byte) :
    (checksum cfg (s ++ t)).toNat = ((checksum cfg s).toNat + (checksum cfg t).toNat) % 256 := by
  simp only [checksum_toNat h, byteSum_append]
  omega

/-- A zero byte adds nothing to the sum. -/
theorem checksum_insert_zero (cfg : Config) (s t : List Byte) :
    checksum cfg (s ++ 0x00 :: t) = checksum cfg (s ++ t) :=
  checksum_congr (by simp)

/-- Settles O17: laws (a) and (b) and the pinned edges of (e) are `checksum_eq_iff` at different bytes. -/
theorem checksumLaws : Obligations.ChecksumLaws := by
  intro cfg h
  have edge (s : List Byte) (c : Byte) : (byteSum s + c.toNat) % 256 = 0 → checksum cfg s = c :=
    (checksum_eq_iff h s c).mpr
  refine ⟨fun s => (checksum_eq_iff h s _).mp rfl, checksum_eq_iff h, checksum_append_toNat h,
    fun s t hst => checksum_congr (by rwa [byteModulus_eight h]), fun s t => checksum_perm cfg,
    checksum_insert_zero cfg, fun s => edge s 0x00, fun s hs => edge s 0x01 ?_,
    edge [] 0x00 (by decide), edge [0xFF] 0x01 (by decide), edge [0x01] 0xFF (by decide)⟩
  rw [Nat.add_mod, hs]
  rfl

/-! Checksum-valid (R104). -/

theorem checksumValid_iff_ends_in_checksum (cfg : Config) (f : List Byte) :
    checksumValid cfg f = true ↔ ∃ g c, f = g ++ [c] ∧ c = checksum cfg g := by
  constructor
  · intro h
    obtain rfl | ⟨g, c, rfl⟩ := List.eq_nil_or_concat' f
    · cases h
    · rw [checksumValid_append, beq_iff_eq] at h
      exact ⟨g, c, rfl, h⟩
  · rintro ⟨g, c, rfl, hc⟩
    rwa [checksumValid_append, beq_iff_eq]

/-- With 8-bit bytes the last byte is right exactly when it brings the sum to 0 (R102 (b)). -/
theorem checksumValid_iff_sum {cfg : Config} (h : cfg.byteBits = 8) (f : List Byte) :
    checksumValid cfg f = true ↔ 1 ≤ f.length ∧ byteSum f % 256 = 0 := by
  obtain rfl | ⟨g, c, rfl⟩ := List.eq_nil_or_concat' f
  · simp
  · rw [checksumValid_append, beq_iff_eq, eq_comm, checksum_eq_iff h]
    simp

/-- Settles O18: a frame is empty or ends in a byte, which is compared with the checksum of those before it. -/
theorem checksumValidIffSumZero : Obligations.ChecksumValidIffSumZero := fun cfg f =>
  ⟨checksumValid_iff_ends_in_checksum cfg f, fun h => checksumValid_iff_sum h f⟩

/-! VERIFY (R105). -/

theorem exec_verify (s : State) : exec .verify s = .next (verifyBytes (frameInBuffer s) s) := rfl

/-- The STATUS that VERIFY of a frame writes, by the frame's sum. -/
theorem verifyBytes_sum {s : State} (h : s.cfg.byteBits = 8) (f : List Byte) :
    verifyBytes f s = { s with
      status := if f.length = 0 then 0x02 else if byteSum f % 256 = 0 then 0x00 else 0x01 } := by
  rw [verifyBytes_spec]
  congr 1
  by_cases hl : f.length = 0
  · rw [if_pos hl, if_pos hl]
    rfl
  · have hv : checksumValid s.cfg f = true ↔ byteSum f % 256 = 0 :=
      (checksumValid_iff_sum h f).trans (and_iff_right (Nat.one_le_iff_ne_zero.mpr hl))
    rw [if_neg hl, if_neg hl]
    exact if_congr hv rfl rfl

/-- Settles O20: the frame VERIFY reads is `f`, whose bytes are all in place below RXCOUNT. -/
theorem verifyResult : Obligations.VerifyResult := by
  intro s f h hl hr
  rw [exec_verify, frameInBuffer_eq hl hr, verifyBytes_sum h]

/-! CSUM (R103). -/

theorem exec_csum (data : List Byte) (s : State) :
    exec (.csum data) s = .next { s with csumOut := some (checksum s.cfg data), status := statusOk } := rfl

/-- Settles O19: the request is the encoding of a well-formed CSUM, and CSUM_OUT takes the checksum of R100. -/
theorem csumResult : Obligations.CsumResult := by
  intro data s h255 hmax h
  refine ⟨decodeRequest_encode (i := .csum data) rfl (wellFormed_csum.mpr ⟨h255, hmax⟩), ?_⟩
  rw [exec_csum, checksum, byteModulus_eight h]
  rfl

end Sys2Proof.Machine
end

section
/-! PROOFS, 41_frame_encoder.md: the checksum of a command frame, what PACK and the four command frames of the opcode
table leave in TXFRAME, and what becomes of a command frame that is fed back to the block. -/

namespace Sys2Proof.Machine

/-! The command frame (R66, R121, R122). -/

/-- Settles O22: the closed form is R100's negated sum at the bytes 0x11, 0x01 and `op`, and the fixed value is law (b)
of R102. -/
theorem commandChecksumClosedForm : Obligations.CommandChecksumClosedForm := by
  refine fun cfg h => ⟨fun op => ?_, (checksum_eq_iff h _ _).mpr (by decide)⟩
  have hop := op.isLt
  have hsum : byteSum [0x11, 0x01, op] = 18 + op.toNat := by
    simp only [byteSum_cons, byteSum_nil, BitVec.reduceToNat]
    omega
  rw [checksum_toNat h, hsum]
  omega

/-- A command frame byte for byte, its checksum written out for 8-bit bytes. -/
theorem commandFrame_eq {cfg : Config} (h : cfg.byteBits = 8) (cmd : Command) :
    commandFrame cfg cmd = [cfg.startCmd, cfg.cmdLenField, opcodeOf cfg cmd, BitVec.ofNat 8 ((256 -
      (cfg.startCmd.toNat + cfg.cmdLenField.toNat + (opcodeOf cfg cmd).toNat) % 256) % 256)] := by
  simp [commandFrame, commandHead, checksum, byteModulus_eight h, Nat.add_assoc]

/-- A command frame ends in its own checksum. -/
theorem checksumValid_commandFrame (cfg : Config) (cmd : Command) :
    checksumValid cfg (commandFrame cfg cmd) = true := by
  rw [commandFrame, checksumValid_append, beq_self_eq_true]

/-- With a length byte of 1 the four bytes of a command frame are a response frame without a payload (R148). -/
theorem validateFrame_commandFrame {cfg : Config} (hlen : cfg.cmdLenField = 1) (hp : cfg.lengthPolicy = .exact)
    (cmd : Command) : validateFrame cfg (commandFrame cfg cmd) = .accepted 0 := by
  have hfits : lengthFits cfg.lengthPolicy cfg.cmdLenField.toNat 4 = true := by
    rw [hlen, hp]
    rfl
  have hlong := validateFrame_long cfg cfg.startCmd cfg.cmdLenField _ _ [] (checksumValid_commandFrame cfg cmd)
  refine hlong.trans ((if_pos hfits).trans ?_)
  rw [hlen]
  rfl

/-! What the frame_encoder leaves (R120). -/

theorem packCommand_readBytes (cmd : Command) (s : State) :
    Memory.readBytes (packCommand cmd s).txframe 0 4 = some (commandFrame s.cfg cmd) :=
  Memory.readBytes_writeBytes _ _ 0

theorem packCommand_read_inside (cmd : Command) (s : State) {a : Nat} (h : a < 4) :
    Memory.read (packCommand cmd s).txframe a = (commandFrame s.cfg cmd)[a]? := by
  obtain ⟨-, hread⟩ := (Memory.readBytes_eq_some_iff _ _ _ _).mp (packCommand_readBytes cmd s)
  simpa using hread a h

theorem packCommand_read_outside (cmd : Command) (s : State) {a : Nat} (h : 4 ≤ a) :
    Memory.read (packCommand cmd s).txframe a = Memory.read s.txframe a :=
  Memory.read_writeBytes_outside _ _ (.inr (by simpa using h))

/-- With four frame bytes TXLEN is 4, and the frame_encoder writes TXFRAME, TXLEN and STATUS only. -/
theorem packCommand_frame {s : State} (h : s.cfg.cmdFrameBytes = 4) (cmd : Command) :
    packCommand cmd s = { s with txframe := (packCommand cmd s).txframe, txlen := 4, status := 0x00 } := by
  rw [packCommand_spec, h]
  rfl

/-- Everything R120 says of the state `t` that the frame_encoder leaves after packing `cmd` in `s`. -/
def PacksFrame (cmd : Command) (s t : State) : Prop :=
  Memory.read t.txframe 0 = some s.cfg.startCmd ∧
  Memory.read t.txframe 1 = some s.cfg.cmdLenField ∧
  Memory.read t.txframe 2 = some (opcodeOf s.cfg cmd) ∧
  Memory.read t.txframe 3 = some (BitVec.ofNat 8 ((256 -
    (s.cfg.startCmd.toNat + s.cfg.cmdLenField.toNat + (opcodeOf s.cfg cmd).toNat) % 256) % 256)) ∧
  (∀ a, 4 ≤ a → Memory.read t.txframe a = Memory.read s.txframe a) ∧
  (∀ a, Memory.read t.rxbuf a = Memory.read s.rxbuf a) ∧
  t = { s with txframe := t.txframe, txlen := 4, status := 0x00 }

theorem packCommand_packsFrame {s : State} (h8 : s.cfg.byteBits = 8) (h4 : s.cfg.cmdFrameBytes = 4)
    (cmd : Command) : PacksFrame cmd s (packCommand cmd s) := by
  have byte {a : Nat} (ha : a < 4) := packCommand_read_inside cmd s ha
  rw [commandFrame_eq h8] at byte
  exact ⟨byte (by decide), byte (by decide), byte (by decide), byte (by decide),
    fun _ => packCommand_read_outside cmd s, fun _ => rfl, packCommand_frame h4 cmd⟩

/-! PACK and the command frames of the opcode table (R62, R67). -/

theorem exec_pack (cmd : Command) (s : State) : exec (.pack cmd) s = .next (packCommand cmd s) := rfl

/-- Log entry 2: a command frame given to the block counts as PACK of its Command. -/
theorem exec_cmdframeRow (cmd : Command) (s : State) : exec (cmdframeRow cmd) s = .next (packCommand cmd s) := by
  cases cmd <;> rfl

/-- PACK's control byte as R62 writes it. -/
theorem packCtrl_eq (cmd : Command) :
    0x02 ||| (commandField cmd).zeroExtend 8 <<< 3 = ctrlByte 2 (commandField cmd) := by
  cases cmd <;> rfl

/-- Settles O23: the request is the encoding of PACK, which runs the frame_encoder. -/
theorem packResult : Obligations.PackResult := by
  intro cmd s h8 h4
  refine ⟨?_, packCommand cmd s, exec_pack cmd s, packCommand_packsFrame h8 h4 cmd⟩
  rw [packCtrl_eq]
  exact decodeRequest_encode (i := .pack cmd) rfl rfl

/-- Settles O24: each of the four pairs is a Command with its row, which runs the frame_encoder as PACK does. -/
theorem commandFrameRowsResult : Obligations.CommandFrameRowsResult := by
  intro i cmd s h8 h4 hrow
  have hi : i = cmdframeRow cmd := by
    simp only [List.mem_cons, Prod.mk.injEq, List.not_mem_nil, or_false] at hrow
    rcases hrow with ⟨rfl, rfl⟩ | ⟨rfl, rfl⟩ | ⟨rfl, rfl⟩ | ⟨rfl, rfl⟩ <;> rfl
  exact ⟨packCommand cmd s, hi ▸ exec_cmdframeRow cmd s, packCommand_packsFrame h8 h4 cmd⟩

/-- Where two Commands have one opcode, the frame decodes to the row of the first of them; but that row's frame has the
same bytes. -/
theorem decodeCommandFrame_same_frame (cfg : Config) (cmd : Command) :
    ∃ c, decodeCommandFrame cfg (commandFrame cfg cmd) = .instr (cmdframeRow c) ∧
      commandFrame cfg cmd = commandFrame cfg c := by
  unfold decodeCommandFrame
  split_ifs with hrm hcal hchk hset
  · exact ⟨.readMeasure, rfl, hrm⟩
  · exact ⟨.calibration, rfl, hcal⟩
  · exact ⟨.abcParameterCheck, rfl, hchk⟩
  · exact ⟨.abcParameterSet, rfl, hset⟩
  · cases cmd <;> contradiction

/-- Settles O25: the step packs a Command whose frame has the issued bytes. -/
theorem issuedCommandFrameStandsInTxframe : Obligations.IssuedCommandFrameStandsInTxframe := by
  intro s cmd rest hi hp h4
  obtain ⟨c, hd, hframe⟩ := decodeCommandFrame_same_frame s.cfg cmd
  have hstep := stepRunsTheDecodedInstruction s _ _ rest _ hi hp hd
  refine ⟨packCommand c (s.setInputs rest), hstep.trans (exec_cmdframeRow c _), ?_,
    packCommand_frame (s := s.setInputs rest) h4 c⟩
  rw [hframe]
  exact packCommand_readBytes c (s.setInputs rest)

/-! A command frame fed back (R122). -/

theorem execAll_nil (s : State) : execAll [] s = .next s := rfl

theorem execAll_cons {i : Instr} {s t : State} (h : exec i s = .next t) (rest : List Instr) :
    execAll (i :: rest) s = execAll rest t := by
  rw [execAll, h]

theorem exec_rxload_of_le {d : List Byte} {s : State} (h : d.length ≤ s.cfg.rxbufSize) :
    exec (.rxload d) s = .next (loadReceived d s) :=
  if_neg (Nat.not_lt.mpr h)

theorem frameInBuffer_loadReceived {d : List Byte} (s : State) (h : d.length ≤ 15) :
    frameInBuffer (loadReceived d s) = d :=
  frameInBuffer_loadBytes d s h

/-- VALIDATE of a frame in the buffer that the frame_validator accepts. -/
theorem exec_validate_accepted {s : State} {plen : Nat} (h : validateFrame s.cfg (frameInBuffer s) = .accepted plen) :
    exec .validate s = .next { s with payloadValid := true, plen := BitVec.ofNat 3 plen, status := statusOk } :=
  congrArg Host.Outcome.next (validateBytes_accepted h)

/-- DECODE of an accepted frame whose payload has no two bytes (43_frame_decoder.md R170). -/
theorem exec_decode_short {s : State} (hv : s.payloadValid = true) (hp : s.plen.toNat < 2) :
    exec .decode s = .next { s with meas := none, status := statusOfError .malformed } := by
  refine congrArg Host.Outcome.next ((decodeChecked_spec _ _ s).trans ?_)
  simp [hv, hp]

/-- Loaded, a command frame is the frame that VALIDATE reads, and it is accepted without a payload. -/
theorem execAll_fedBack {s : State} (hroom : 4 ≤ s.cfg.rxbufSize) (hlen : s.cfg.cmdLenField = 1)
    (hpol : s.cfg.lengthPolicy = .exact) (cmd : Command) :
    execAll [.pack cmd, .rxload (commandFrame s.cfg cmd), .validate] s =
      .next { loadReceived (commandFrame s.cfg cmd) (packCommand cmd s) with
        payloadValid := true, plen := 0, status := statusOk } := by
  have hload := exec_rxload_of_le (d := commandFrame s.cfg cmd) (s := packCommand cmd s) hroom
  have hacc : validateFrame s.cfg (frameInBuffer (loadReceived (commandFrame s.cfg cmd) (packCommand cmd s))) =
      .accepted 0 := by
    rw [frameInBuffer_loadReceived _ (by simp)]
    exact validateFrame_commandFrame hlen hpol cmd
  rw [execAll_cons (exec_pack cmd s), execAll_cons hload, execAll_cons (exec_validate_accepted hacc), execAll_nil]
  rfl

/-- Settles O26: a command frame ends in its checksum, and the one that `execAll_fedBack` accepts has too short a
payload for DECODE. -/
theorem commandFrameFedBack : Obligations.CommandFrameFedBack := by
  refine ⟨fun cfg cmd => ?_, fun s cmd _ hroom hlen hpol => ?_⟩
  · have hvalid := checksumValid_commandFrame cfg cmd
    exact ⟨hvalid, fun h => ((checksumValid_iff_sum h _).mp hvalid).2⟩
  · exact ⟨_, _, execAll_fedBack hroom hlen hpol cmd, packCommand_readBytes cmd s, rfl, rfl, rfl,
      exec_decode_short rfl Nat.two_pos, rfl, rfl⟩

end Sys2Proof.Machine
end

section
/-! PROOFS, 42_frame_validator.md: what RXLOAD and VALIDATE do under either length policy, which frames are accepted,
and how the two policies compare. -/

namespace Sys2Proof.Machine

/-! The length byte (R148; 92_eei_decisions.md D6). -/

/-- EXACT as R148 writes it: in a frame that one length byte can describe, the byte is n - 3. -/
theorem lengthFits_exact_iff {len : Byte} {n : Nat} (h3 : 3 ≤ n) (hn : n ≤ 258) :
    lengthFits .exact len.toNat n = true ↔ len = BitVec.ofNat 8 (n - 3) := by
  rw [lengthFits, beq_iff_eq, ← BitVec.toNat_inj, BitVec.toNat_ofNat]
  omega

theorem lengthFits_bounds_iff {len n : Nat} :
    lengthFits .bounds len n = true ↔ 1 ≤ len ∧ 2 + len + 1 ≤ n := by
  simp [lengthFits]

/-- The data segment that EXACT asks for has an echo and ends before the checksum. -/
theorem lengthFits_bounds_of_exact {len n : Nat} (hn : 4 ≤ n) (h : lengthFits .exact len n = true) :
    lengthFits .bounds len n = true := by
  rw [lengthFits, beq_iff_eq] at h
  rw [lengthFits_bounds_iff]
  omega

/-! The verdict (R145, R147). -/

/-- The last check of a frame that has passed the others goes by its length byte alone. -/
theorem validateFrame_byLength {cfg : Config} {f : List Byte} {len : Byte} (hc : checksumValid cfg f = true)
    (hn : 4 ≤ f.length) (hlen : f[1]? = some len) :
    validateFrame cfg f = if lengthFits cfg.lengthPolicy len.toNat f.length then .accepted (len.toNat - 1)
      else .rejected .malformed := by
  match f, hn with
  | m :: _ :: x :: y :: rest, _ =>
    cases hlen
    exact validateFrame_long cfg m len x y rest hc

/-- The structure check, in both its forms: too few bytes for a length byte to count, or one that does not fit. -/
theorem validateFrame_misfit {cfg : Config} {f : List Byte} (hc : checksumValid cfg f = true)
    (h : ∀ len : Byte, 4 ≤ f.length → f[1]? = some len →
      ¬ lengthFits cfg.lengthPolicy len.toNat f.length = true) :
    validateFrame cfg f = .rejected .malformed := by
  rcases Nat.lt_or_ge f.length 4 with hshort | hn
  · exact validateFrame_short cfg hc hshort
  · have hlen : f[1]? = some f[1] := List.getElem?_eq_getElem _
    rw [validateFrame_byLength hc hn hlen, if_neg (h _ hn hlen)]

/-- Under EXACT a frame with the right length byte carries all but four of its bytes as payload. -/
theorem validateFrame_exact {cfg : Config} {f : List Byte} (hpol : cfg.lengthPolicy = .exact)
    (hc : checksumValid cfg f = true) (h4 : 4 ≤ f.length) (hn : f.length ≤ 258)
    (hlen : f[1]? = some (BitVec.ofNat 8 (f.length - 3))) : validateFrame cfg f = .accepted (f.length - 4) := by
  have hfits := (lengthFits_exact_iff (by omega) hn).mpr rfl
  rw [validateFrame_byLength hc h4 hlen, hpol, if_pos hfits, BitVec.toNat_ofNat]
  congr 1
  omega

/-- Settles O30: one lemma for each of the three checks, none of which looks at the length policy before the last. -/
theorem firstFailingCheckIsReported : Obligations.FirstFailingCheckIsReported := by
  refine fun cfg f => ⟨?_, validateFrame_mismatch cfg, fun hc hbad => validateFrame_misfit hc fun len hn hlen => ?_⟩
  · rintro rfl
    exact validateFrame_nil cfg
  · rcases hbad with hshort | ⟨bad, hbad, hmisfit⟩
    · omega
    · obtain rfl : len = bad := Option.some.inj (hlen.symm.trans hbad)
      simp [hmisfit]

/-! Accepted frames (R149) and the two policies (R148; D6). -/

/-- The payload of a frame that EXACT accepts is everything between the echo and the checksum. -/
theorem payloadOf_exact {cfg : Config} {f : List Byte} {plen : Nat} (ho : cfg.payloadOffset = 3)
    (hplen : plen = f.length - 4) : payloadOf cfg f plen = (f.drop 3).dropLast := by
  rw [payloadOf, ho, hplen, List.dropLast_eq_take, List.length_drop]
  congr 1

/-- Settles O31: the length byte of an accepted frame is n - 3, and all of R149 follows from that number. -/
theorem acceptedFrameShape : Obligations.AcceptedFrameShape := by
  intro cfg f plen hpol ho h8 h
  obtain ⟨m, len, x, y, rest, rfl, -, hfits, rfl⟩ := validateFrame_accepted h
  rw [hpol, lengthFits, beq_iff_eq] at hfits
  have h4 : 4 ≤ (m :: len :: x :: y :: rest).length := by simp
  exact ⟨h4, ⟨len, rfl, by omega, by omega, by omega⟩, by omega, by omega, payloadOf_exact ho (by omega)⟩

/-- Settles O33: the two policies differ in the length check only, and in a frame with three bytes between its data
segment and its checksum EXACT rejects what BOUNDS accepts. -/
theorem exactRefinesBounds : Obligations.ExactRefinesBounds := by
  refine ⟨fun cfg f plen h => ?_, [0x16, 0x01, 0x01, 0x00, 0x00, 0x00, 0x00, 0xE8], 0, by decide, by decide⟩
  obtain ⟨m, len, x, y, rest, rfl, hc, hfits, rfl⟩ := validateFrame_accepted h
  have hbounds := lengthFits_bounds_of_exact (by simp) hfits
  have hc' : checksumValid { cfg with lengthPolicy := .bounds } (m :: len :: x :: y :: rest) = true := hc
  rw [validateFrame_byLength hc' (by simp) rfl, if_pos hbounds]

/-! RXLOAD (R140). -/

theorem exec_rxload_of_gt {d : List Byte} {s : State} (h : s.cfg.rxbufSize < d.length) :
    exec (.rxload d) s = .next (raise .illegalOp s) :=
  if_pos h

/-- Settles O27: the request is the encoding of a well-formed RXLOAD, which loads its bytes; a longer one, as an
operation or by its count byte, is an illegal request. -/
theorem rxloadResult : Obligations.RxloadResult := by
  refine fun data s => ⟨fun hsized hl => ?_, exec_rxload_of_gt, fun n hn => ?_⟩
  · obtain ⟨-, -, hsize, -, -⟩ := (Config.sized_iff _).mp hsized
    exact ⟨decodeRequest_encode (i := .rxload data) rfl (wellFormed_rxload.mpr ⟨by omega, hl⟩),
      loadReceived data s, exec_rxload_of_le hl, fun a => (loadReceived_loads data s).read_below,
      fun a ha => Memory.read_writeBytes_outside _ _ (.inr (by omega)), fun a => rfl, rxcount_toNat (by omega), rfl⟩
  · exact ⟨(decodeRequest_rxload ..).trans (decodeRxloadBlock_tooLong data hn), rfl⟩

/-! VALIDATE (R145, R146). -/

/-- VALIDATE of a frame in the buffer that the frame_validator rejects. -/
theorem exec_validate_rejected {s : State} {e : RequestError}
    (h : validateFrame s.cfg (frameInBuffer s) = .rejected e) :
    exec .validate s = .next { s with payloadValid := false, plen := 0, status := statusOfError e } :=
  congrArg Host.Outcome.next (validateBytes_rejected h)

/-- The first check, which no parameter decides. -/
theorem exec_validate_empty {s : State} (h : (frameInBuffer s).length = 0) :
    exec .validate s = .next { s with payloadValid := false, plen := 0, status := 0x02 } :=
  exec_validate_rejected (e := .malformed) (by rw [List.length_eq_zero_iff.mp h, validateFrame_nil])

/-- The second check, with 8-bit bytes. -/
theorem exec_validate_mismatch {s : State} (h8 : s.cfg.byteBits = 8) (h0 : (frameInBuffer s).length ≠ 0)
    (hsum : byteSum (frameInBuffer s) % 256 ≠ 0) :
    exec .validate s = .next { s with payloadValid := false, plen := 0, status := 0x01 } := by
  have hc : checksumValid s.cfg (frameInBuffer s) = false :=
    Bool.eq_false_iff.mpr fun hv => hsum ((checksumValid_iff_sum h8 _).mp hv).2
  exact exec_validate_rejected (validateFrame_mismatch _ (List.ne_nil_of_length_pos (by omega)) hc)

/-- Settles O28: the frame VALIDATE reads is `f`, and the branches are its checks in their order. -/
theorem validateResultExact : Obligations.ValidateResultExact := by
  intro s f hpol h8 h11 hl hr
  obtain rfl := frameInBuffer_eq hl hr
  split_ifs with h0 hsum hfit
  · exact exec_validate_empty h0
  · exact exec_validate_mismatch h8 h0 hsum
  · have hc := (checksumValid_iff_sum h8 _).mpr ⟨by omega, not_not.mp hsum⟩
    obtain ⟨h4, hlen⟩ := hfit
    exact exec_validate_accepted (validateFrame_exact hpol hc h4 (by omega) hlen)
  · have hc := (checksumValid_iff_sum h8 _).mpr ⟨by omega, not_not.mp hsum⟩
    refine exec_validate_rejected (e := .malformed) (validateFrame_misfit hc fun len h4 hlen hfits => hfit ⟨h4, ?_⟩)
    rw [hpol, lengthFits_exact_iff (by omega) (by omega)] at hfits
    rw [hlen, hfits]

/-- Settles O29: the checks before the last are those of EXACT, and the last is D6's pair of bounds. -/
theorem validateResultBounds : Obligations.ValidateResultBounds := by
  intro s f hpol h8 _ hl hr
  obtain rfl := frameInBuffer_eq hl hr
  refine ⟨exec_validate_empty, exec_validate_mismatch h8, fun len hsum hlen h1 hend => ?_, fun h0 hsum hbad => ?_⟩
  · have hc := (checksumValid_iff_sum h8 _).mpr ⟨by omega, hsum⟩
    have hfits := lengthFits_bounds_iff.mpr ⟨h1, hend⟩
    refine exec_validate_accepted ?_
    rw [validateFrame_byLength hc (by omega) hlen, hpol, if_pos hfits]
  · have hc := (checksumValid_iff_sum h8 _).mpr ⟨by omega, hsum⟩
    refine exec_validate_rejected (e := .malformed) (validateFrame_misfit hc fun len _ hlen => ?_)
    rw [hpol, lengthFits_bounds_iff]
    exact hbad len hlen

/-! A frame built over a data segment (R153). -/

/-- The response frame with the start marker `m` over the data segment `b`, as R153 builds it. -/
def responseFrame (cfg : Config) (m : Byte) (b : List Byte) : List Byte :=
  m :: BitVec.ofNat 8 b.length :: b ++ [checksum cfg (m :: BitVec.ofNat 8 b.length :: b)]

@[simp] theorem responseFrame_length (cfg : Config) (m : Byte) (b : List Byte) :
    (responseFrame cfg m b).length = b.length + 3 := by
  simp [responseFrame]

theorem checksumValid_responseFrame (cfg : Config) (m : Byte) (b : List Byte) :
    checksumValid cfg (responseFrame cfg m b) = true := by
  rw [responseFrame, checksumValid_append, beq_self_eq_true]

/-- The data segment starts at index 2, and its first byte is the echo. -/
theorem responseFrame_getElem? (cfg : Config) (m : Byte) {b : List Byte} {i : Nat} (h : i < b.length) :
    (responseFrame cfg m b)[2 + i]? = b[i]? := by
  rw [Nat.add_comm]
  exact List.getElem?_append_left (Nat.add_lt_add_right h 2)

theorem validateFrame_responseFrame {cfg : Config} {b : List Byte} (m : Byte) (hpol : cfg.lengthPolicy = .exact)
    (h1 : 1 ≤ b.length) (h255 : b.length ≤ 255) :
    validateFrame cfg (responseFrame cfg m b) = .accepted (b.length - 1) := by
  have hn := responseFrame_length cfg m b
  have hlen : (responseFrame cfg m b)[1]? = some (BitVec.ofNat 8 ((responseFrame cfg m b).length - 3)) := by
    rw [hn]
    rfl
  rw [validateFrame_exact hpol (checksumValid_responseFrame cfg m b) (by omega) (by omega) hlen, hn]
  rfl

theorem payloadOf_responseFrame {cfg : Config} {b : List Byte} (m : Byte) (ho : cfg.payloadOffset = 3)
    (h1 : 1 ≤ b.length) : payloadOf cfg (responseFrame cfg m b) (b.length - 1) = b.tail := by
  rw [payloadOf_exact ho (by simp)]
  cases b with
  | nil => cases h1
  | cons echo payload => exact List.dropLast_concat

/-- Loaded, a response frame is the frame that VALIDATE reads, and it is accepted. -/
theorem execAll_load_validate {s : State} {b : List Byte} (m : Byte) (hsize : s.cfg.rxbufSize ≤ 11)
    (hpol : s.cfg.lengthPolicy = .exact) (h1 : 1 ≤ b.length) (hroom : b.length + 3 ≤ s.cfg.rxbufSize) :
    execAll [.rxload (responseFrame s.cfg m b), .validate] s =
      .next { loadReceived (responseFrame s.cfg m b) s with
        payloadValid := true, plen := BitVec.ofNat 3 (b.length - 1), status := statusOk } := by
  have hload : exec (.rxload (responseFrame s.cfg m b)) s = .next (loadReceived (responseFrame s.cfg m b) s) :=
    exec_rxload_of_le (by simpa using hroom)
  have hacc : validateFrame s.cfg (frameInBuffer (loadReceived (responseFrame s.cfg m b) s)) =
      .accepted (b.length - 1) := by
    rw [frameInBuffer_loadReceived _ (by rw [responseFrame_length]; omega)]
    exact validateFrame_responseFrame m hpol h1 (by omega)
  rw [execAll_cons hload, execAll_cons (exec_validate_accepted hacc), execAll_nil]

/-- Settles O32: on the machine by `execAll_load_validate`, after which RXBUF holds the frame's bytes; for the function
by the verdict on a response frame and its payload. -/
theorem frameRoundTrip : Obligations.FrameRoundTrip := by
  refine ⟨fun m b s hsized h1 hroom hpol => ?_, fun cfg m b hpol h1 h255 => ?_⟩
  · obtain ⟨-, -, hsize, -, -⟩ := (Config.sized_iff _).mp hsized
    refine ⟨_, execAll_load_validate m hsize hpol h1 hroom, rfl, rfl, ?_, fun k hk => ?_⟩
    · rw [BitVec.toNat_ofNat]
      omega
    · have hread := (loadReceived_loads (responseFrame s.cfg m b) s).read_below (a := 2 + (1 + k))
        (by rw [responseFrame_length]; omega)
      rw [responseFrame_getElem? s.cfg m (by omega), ← Nat.add_assoc] at hread
      exact hread
  · exact ⟨validateFrame_responseFrame m hpol h1 h255, fun ho => payloadOf_responseFrame m ho h1⟩

end Sys2Proof.Machine
end

section
/-! PROOFS, 43_frame_decoder.md: what DECODE does, which bytes it reads and from which frame, and the range of the
measurement. -/

namespace Sys2Proof.Machine

/-! The number (R170, R171). -/

/-- With 8-bit bytes the measurement is the number that the rules write. -/
theorem measurementOf_eight {cfg : Config} (h8 : cfg.byteBits = 8) (h17 : 17 ≤ cfg.measBits) (hi lo : Byte) :
    measurementOf cfg hi lo = 256 * (hi.toNat : Int) + (lo.toNat : Int) := by
  rw [measurementOf_eq h8.le h17, byteModulus_eight h8]
  simp

/-- A number of 16 bits leaves the upper half of the 32 bits of MEAS zero, the sign among them. -/
theorem measWord_of_range {cfg : Config} (h32 : cfg.measBits = 32) {m : Int} (h0 : 0 ≤ m) (hmax : m ≤ 65535) :
    (measWord cfg m).extractLsb' 16 16 = 0 ∧ (measWord cfg m).toInt = m := by
  obtain ⟨n, rfl⟩ := Int.eq_ofNat_of_zero_le h0
  unfold measWord
  rw [h32]
  constructor
  · apply BitVec.eq_of_toNat_eq
    simp [Nat.shiftRight_eq_div_pow]
    omega
  · rw [BitVec.toInt_ofInt]
    exact Int.bmod_eq_of_le (by omega) (by omega)

/-! DECODE, case by case (R170); `exec_decode_short` is the case between these two. -/

theorem exec_decode (s : State) : exec .decode s = .next (decodeChecked (payloadHigh s) (payloadLow s) s) := rfl

theorem exec_decode_unchecked {s : State} (hv : s.payloadValid = false) :
    exec .decode s = .next { s with meas := none, status := statusOfError .unchecked } := by
  rw [exec_decode, decodeChecked_spec]
  simp [hv]

theorem exec_decode_measured {s : State} (hv : s.payloadValid = true) (hp : 2 ≤ s.plen.toNat) :
    exec .decode s = .next { s with
      meas := some (measurementOf s.cfg (payloadHigh s) (payloadLow s)), status := statusOk } := by
  rw [exec_decode, decodeChecked_spec]
  simp [hv, Nat.not_lt.mpr hp]

/-- A measurement after DECODE is of the two bytes, from a valid payload that has them. -/
theorem decodeChecked_meas_eq_some {hi lo : Byte} {s : State} {m : Int}
    (h : (decodeChecked hi lo s).meas = some m) :
    s.payloadValid = true ∧ 2 ≤ s.plen.toNat ∧ m = measurementOf s.cfg hi lo := by
  rw [decodeChecked_spec] at h
  by_cases hv : s.payloadValid = true
  · by_cases hp : s.plen.toNat < 2
    · simp [hp] at h
    · simp only [hv, hp, Bool.not_true, Bool.false_eq_true, if_false, Option.some.injEq] at h
      exact ⟨hv, Nat.not_lt.mp hp, h.symm⟩
  · simp [hv] at h

/-- Settles O34: one lemma for each case of R170, and the number is 256 * hi + lo. -/
theorem decodeResult : Obligations.DecodeResult := by
  refine ⟨fun cfg => decodeRequest_encode (i := .decode) rfl rfl, fun s =>
    ⟨exec_decode_unchecked, exec_decode_short, fun hi lo h8 h17 hv hp hhi hlo => ?_⟩⟩
  rw [exec_decode_measured hv hp, payloadHigh, payloadLow, Memory.unitRead_of_read hhi, Memory.unitRead_of_read hlo,
    measurementOf_eight h8 h17]
  rfl

/-! What a step can leave in MEAS (R171). -/

/-- A measurement in `t` stood in `s` already, or two bytes give it. -/
def MeasKeptOrMeasured (s t : State) : Prop :=
  ∀ m, t.meas = some m → s.meas = some m ∨ ∃ hi lo, m = measurementOf s.cfg hi lo

theorem MeasKeptOrMeasured.of_eq {s t : State} (h : t.meas = s.meas) : MeasKeptOrMeasured s t :=
  fun _ hm => .inl (h ▸ hm)

theorem decodePhase_measKeptOrMeasured (s : State) : MeasKeptOrMeasured s (decodePhase s) := by
  intro m hm
  rw [decodePhase_spec] at hm
  by_cases hp : s.plen.toNat < 2
  · exact .inl (by simpa [hp] using hm)
  · exact .inr ⟨payloadHigh s, payloadLow s, by simpa [hp, eq_comm] using hm⟩

/-- Of the ways an exchange ends, only the accepted one writes MEAS. -/
theorem ExchangeEnds.measKeptOrMeasured {q t : State} (h : ExchangeEnds q t) : MeasKeptOrMeasured q t := by
  cases h with
  | failed cause => exact .of_eq rfl
  | rejected => exact .of_eq rfl
  | @accepted d plen => exact decodePhase_measKeptOrMeasured (acceptPayload plen (loadBytes d q))

/-- READMEAS clears MEAS before it asks the transport, so a measurement after it is a new one. -/
theorem exchange_measKeptOrMeasured (s : State) : MeasKeptOrMeasured s (exchange s) := by
  intro m hm
  obtain ⟨q, ⟨_, _, _, _, rfl⟩, hends⟩ := exchange_ends s
  rcases hends.measKeptOrMeasured m hm with hold | hnew
  · cases hold
  · exact .inr hnew

theorem exec_measKeptOrMeasured {i : Instr} {s t : State} (h : exec i s = .next t) : MeasKeptOrMeasured s t := by
  have hw := exec_writesOnly h
  cases i with
  | decode =>
    cases h
    intro m hm
    obtain ⟨-, -, hval⟩ := decodeChecked_meas_eq_some hm
    exact .inr ⟨_, _, hval⟩
  | readmeas =>
    cases h
    exact exchange_measKeptOrMeasured s
  | csum | verify | pack | rxload | validate | cmdframeReadMeasure | cmdframeCalibration
  | cmdframeAbcParameterCheck | cmdframeAbcParameterSet =>
    rw [hw]
    exact .of_eq rfl

theorem step_measKeptOrMeasured {s t : State} (h : step s = .next t) : MeasKeptOrMeasured s t := by
  rcases step_next h with ⟨-, rfl⟩ | ⟨rest, -, rfl⟩ | ⟨reg, rest, -, -, rfl⟩ | ⟨_, _, rest, i, -, -, -, he⟩ |
    ⟨_, _, rest, why, -, -, -, rfl⟩
  · exact .of_eq rfl
  · intro m hm
    cases hm
  · exact .of_eq rfl
  · exact exec_measKeptOrMeasured (s := s.setInputs rest) he
  · exact .of_eq rfl

/-- Settles O35: reset leaves no measurement, and a step keeps the one that stands or measures two bytes, which give a
number of 16 bits. -/
theorem measurementRangeIsKept : Obligations.MeasurementRangeIsKept := by
  refine ⟨fun m hm => (nomatch hm), fun s t h8 h32 hs hstep m hm => ?_⟩
  rw [parametersAreFixed s t hstep]
  rcases step_measKeptOrMeasured hstep m hm with hkept | ⟨hi, lo, rfl⟩
  · exact hs m hkept
  · obtain ⟨h0, hmax⟩ := measurementOf_range h8.le (by omega) hi lo
    exact ⟨h0, hmax, measWord_of_range h32 h0 hmax⟩

/-! The two bytes that DECODE reads, and the frame they stand in (R172, R173). -/

/-- DECODE of two given bytes does not look at the buffer. -/
theorem decodeChecked_setRxbuf (hi lo : Byte) (s : State) (m : Memory) :
    decodeChecked hi lo (s.setRxbuf m) = (decodeChecked hi lo s).setRxbuf m := by
  rw [decodeChecked_spec, decodeChecked_spec]
  rfl

/-- Settles O36: the other buffer gives DECODE the same two bytes, and it has no other use for a buffer. -/
theorem decodeReadsTwoPayloadBytes : Obligations.DecodeReadsTwoPayloadBytes := by
  intro s t m hhigh hlow h
  cases h
  have hhi : payloadHigh (s.setRxbuf m) = payloadHigh s := Memory.unitRead_congr hhigh
  have hlo : payloadLow (s.setRxbuf m) = payloadLow s := Memory.unitRead_congr hlow
  change exec .decode (s.setRxbuf m) = .next ((decodeChecked (payloadHigh s) (payloadLow s) s).setRxbuf m)
  rw [exec_decode, hhi, hlo, decodeChecked_setRxbuf]

/-- The current frame is the bytes that stand below RXCOUNT. -/
theorem State.Inv.read_eq_frameInBuffer {s : State} (h : s.Inv) {a : Nat} (ha : a < s.rxcount.toNat) :
    Memory.read s.rxbuf a = (frameInBuffer s)[a]? := by
  obtain ⟨b, hb⟩ := h.frame_valued a ha
  rw [frameInBuffer, Memory.unitReadBytes_getElem? _ ha, Memory.unitRead_of_read hb, hb]

theorem accepted_checksumValid {cfg : Config} {f : List Byte} {plen : Nat}
    (h : validateFrame cfg f = .accepted plen) : checksumValid cfg f = true := by
  obtain ⟨_, _, _, _, _, -, hc, -⟩ := validateFrame_accepted h
  exact hc

/-- Settles O37: a measurement needs a valid payload of two bytes, which the invariant says is an accepted frame's. -/
theorem measurementComesFromAnAcceptedFrame : Obligations.MeasurementComesFromAnAcceptedFrame := by
  intro s t m h h8 he hm
  cases he
  obtain ⟨hv, hp, rfl⟩ := decodeChecked_meas_eq_some hm
  obtain ⟨-, -, -, hoff, h17⟩ := (Config.sized_iff _).mp h.cfg_sized
  have hacc := h.payload_accepted hv
  have hlen := accepted_length hacc
  obtain ⟨-, hsum⟩ := (checksumValid_iff_sum h8 _).mp (accepted_checksumValid hacc)
  obtain ⟨hi, lo, more, hpay, hhi, hlo⟩ := payloadOf_two hoff hacc hp
  have hlow := h.payload_below_rxcount hv hp
  have hhigh : payloadHigh s = hi := Memory.unitRead_of_read ((h.read_eq_frameInBuffer (by omega)).trans hhi)
  have hlo' : payloadLow s = lo := Memory.unitRead_of_read ((h.read_eq_frameInBuffer hlow).trans hlo)
  refine ⟨frameInBuffer s, frameInBuffer_length s, fun a => h.read_eq_frameInBuffer, hacc, by omega, hsum,
    hi, lo, more, hhi, hlo, hpay, ?_⟩
  rw [hhigh, hlo', measurementOf_eight h8 h17]

end Sys2Proof.Machine
end

section
/-! PROOFS, 44_transaction.md: what READMEAS leaves for each answer of the transport, the four requests it stands for,
and what it asks. -/

namespace Sys2Proof.Machine

/-! The exchange up to the transport's answers (R191 to R193). -/

/-- READMEAS once it has asked the write: the last exchange cleared, and the ReadMeasure frame encoded and offered. -/
def writeAsked (s : State) : State :=
  askWrite (commandFrame s.cfg .readMeasure) ((encodedExchange s).setPhase .write)

/-- READMEAS once it has asked the read, too. -/
def readAsked (s : State) : State :=
  askRead ((writeAsked s).setPhase .read)

theorem encodedExchange_spec (s : State) :
    encodedExchange s = { s with
      txframe := Memory.writeBytes s.txframe 0 (commandFrame s.cfg .readMeasure),
      txlen := BitVec.ofNat 3 s.cfg.cmdFrameBytes, payloadValid := false, plen := 0, meas := none,
      phase := .encode } := by
  simp only [encodedExchange, encodePhase, putFrame_spec, beginExchange, clearPayload_spec, State.setMeas,
    State.setPhase]

theorem writeAsked_spec (s : State) :
    writeAsked s = { s with
      txframe := Memory.writeBytes s.txframe 0 (commandFrame s.cfg .readMeasure),
      txlen := BitVec.ofNat 3 s.cfg.cmdFrameBytes,
      payloadValid := false, plen := 0, meas := none, phase := .write, writeAnswers := s.writeAnswers.tail,
      asked := s.asked ++ [.write (commandFrame s.cfg .readMeasure)] } := by
  simp only [writeAsked, askWrite_spec, encodedExchange_spec, State.setPhase]

theorem readAsked_spec (s : State) :
    readAsked s = { s with
      txframe := Memory.writeBytes s.txframe 0 (commandFrame s.cfg .readMeasure),
      txlen := BitVec.ofNat 3 s.cfg.cmdFrameBytes,
      payloadValid := false, plen := 0, meas := none, phase := .read, writeAnswers := s.writeAnswers.tail,
      readAnswers := s.readAnswers.tail,
      asked := s.asked ++ [.write (commandFrame s.cfg .readMeasure), .read] } := by
  simp only [readAsked, writeAsked_spec, askRead_spec, State.setPhase, List.append_assoc, List.singleton_append]

theorem readAsked_cfg (s : State) : (readAsked s).cfg = s.cfg := by
  rw [readAsked_spec]

theorem loadBytes_cfg (d : List Byte) (s : State) : (loadBytes d s).cfg = s.cfg := by
  rw [loadBytes_spec]

theorem acceptPayload_cfg (plen : Nat) (s : State) : (acceptPayload plen s).cfg = s.cfg := by
  rw [acceptPayload_spec]

theorem transportFailure_spec (cause : TransportCause) (s : State) :
    transportFailure cause s = { s with
      rxcount := 0, status := statusOfError (.transportError cause), phase := .idle } := by
  simp only [transportFailure, endExchange, raise_spec, State.setPhase, State.setRxcount]

/-- The phase in which the read was asked leaves no trace once the exchange has failed. -/
theorem transportFailure_askRead (cause : TransportCause) (s : State) (p : Phase) :
    transportFailure cause (askRead (s.setPhase p)) = { askRead s with
      rxcount := 0, status := statusOfError (.transportError cause), phase := .idle } := rfl

/-- The transport is asked from a state in which it has been told nothing yet. -/
theorem writeAnswer_encodedExchange (s : State) :
    writeAnswer (encodedExchange s) = writeAnswerFrom s.writeAnswers s.asked.length := by
  rw [writeAnswer, encodedExchange_spec]

theorem readAnswer_writeAsked (s : State) :
    readAnswer (writeAsked s) = readAnswerFrom s.cfg.rxbufSize s.readAnswers (s.asked.length + 1) := by
  simp [readAnswer, writeAsked_spec]

/-! One equation for each answer (R193, R194). -/

theorem exchange_writeFailed {s : State} (hw : writeAnswerFrom s.writeAnswers s.asked.length = .fail) :
    exchange s = transportFailure .writeFailed (writeAsked s) := by
  rw [exchange_eq_writePhase, writePhase_fail _ _ ((writeAnswer_encodedExchange s).trans hw)]
  rfl

theorem exchange_written {s : State} (hw : writeAnswerFrom s.writeAnswers s.asked.length = .ok) :
    exchange s = readPhase (writeAsked s) := by
  rw [exchange_eq_writePhase, writePhase_ok _ _ ((writeAnswer_encodedExchange s).trans hw)]
  rfl

section

variable {s : State} (hw : writeAnswerFrom s.writeAnswers s.asked.length = .ok)

include hw

theorem exchange_timeout
    (hr : readAnswerFrom s.cfg.rxbufSize s.readAnswers (s.asked.length + 1) = .timeout) :
    exchange s = transportFailure .timeout (readAsked s) := by
  rw [exchange_written hw, readPhase_timeout _ ((readAnswer_writeAsked s).trans hr), readAsked,
    transportFailure_askRead]

theorem exchange_noResponse
    (hr : readAnswerFrom s.cfg.rxbufSize s.readAnswers (s.asked.length + 1) = .data []) :
    exchange s = transportFailure .noResponse (readAsked s) := by
  rw [exchange_written hw, readPhase_noResponse _ ((readAnswer_writeAsked s).trans hr), readAsked,
    transportFailure_askRead]

theorem exchange_data {d : List Byte}
    (hr : readAnswerFrom s.cfg.rxbufSize s.readAnswers (s.asked.length + 1) = .data d) (hd : d ≠ []) :
    exchange s = validatePhase (loadBytes d (readAsked s)) := by
  rw [exchange_written hw, readPhase_data _ ((readAnswer_writeAsked s).trans hr) hd]
  rfl

/-- The frame_validator judges the bytes of this read, and nothing that stood in RXBUF before them (R195). -/
theorem exchange_rejected {d : List Byte} {e : RequestError}
    (hr : readAnswerFrom s.cfg.rxbufSize s.readAnswers (s.asked.length + 1) = .data d) (hd : d ≠ [])
    (hl : d.length ≤ 15) (hv : validateFrame s.cfg d = .rejected e) :
    exchange s = { loadBytes d (readAsked s) with status := statusOfError e, phase := .idle } := by
  rw [exchange_data hw hr hd]
  apply validatePhase_rejected
  rwa [frameInBuffer_loadBytes d _ hl, loadBytes_cfg, readAsked_cfg]

theorem exchange_accepted {d : List Byte} {plen : Nat}
    (hr : readAnswerFrom s.cfg.rxbufSize s.readAnswers (s.asked.length + 1) = .data d) (hd : d ≠ [])
    (hl : d.length ≤ 15) (hv : validateFrame s.cfg d = .accepted plen) :
    exchange s = decodePhase (acceptPayload plen (loadBytes d (readAsked s))) := by
  rw [exchange_data hw hr hd, validatePhase_accepted (plen := plen), decodePhase_acceptPayload_setPhase]
  rwa [frameInBuffer_loadBytes d _ hl, loadBytes_cfg, readAsked_cfg]

end

/-! What every exchange leaves in TXFRAME (R192). -/

theorem ExchangeEnds.txframe {q t : State} (h : ExchangeEnds q t) : t.txframe = q.txframe := by
  cases h with
  | failed cause => rfl
  | rejected => rfl
  | accepted =>
    rw [decodePhase_spec]
    rfl

/-- The ENCODE phase leaves in TXFRAME what PACK does, and no later phase writes there. -/
theorem exchange_txframe (s : State) : (exchange s).txframe = (packCommand .readMeasure s).txframe := by
  obtain ⟨q, ⟨_, _, _, _, hq⟩, hends⟩ := exchange_ends s
  rw [hends.txframe, hq, encodedExchange_spec, packCommand_spec]

theorem exchange_readBytes (s : State) :
    Memory.readBytes (exchange s).txframe 0 4 = some (commandFrame s.cfg .readMeasure) := by
  rw [exchange_txframe, packCommand_readBytes]

theorem exchange_read_outside (s : State) {a : Nat} (h : 4 ≤ a) :
    Memory.read (exchange s).txframe a = Memory.read s.txframe a := by
  rw [exchange_txframe, packCommand_read_outside _ _ h]

theorem exec_readmeas (s : State) : exec .readmeas s = .next (exchange s) := rfl

/-! The transport brings nothing (R193, R194). -/

/-- Settles O39: the exchange ends from `writeAsked`, so the read is never asked. -/
theorem readmeasWriteFailed : Obligations.ReadmeasWriteFailed := by
  intro s h4 hw
  have hx := exchange_writeFailed hw
  refine ⟨exchange s, exec_readmeas s, exchange_readBytes s, fun _ => exchange_read_outside s, fun a => ?_, ?_⟩
  · rw [hx, transportFailure_spec, writeAsked_spec]
  · rw [hx, transportFailure_spec, writeAsked_spec, h4]
    rfl

/-- Settles O40: a time-out and a read of no bytes end from `readAsked`, each with its own cause. -/
theorem readmeasNoData : Obligations.ReadmeasNoData := by
  intro s r h4 hw hr hnone
  have hx : exchange s =
      transportFailure (if r = .timeout then .timeout else .noResponse) (readAsked s) := by
    rcases hnone with rfl | rfl
    · exact exchange_timeout hw hr
    · exact exchange_noResponse hw hr
  refine ⟨exchange s, exec_readmeas s, exchange_readBytes s, fun _ => exchange_read_outside s, fun a => ?_, ?_⟩
  · rw [hx, transportFailure_spec, readAsked_spec]
  · rw [hx, transportFailure_spec, readAsked_spec, h4]
    rcases hnone with rfl | rfl <;> rfl

/-! The transport brings bytes (R194, R195). -/

/-- VALIDATE and DECODE write the payload registers, MEAS, STATUS and the phase, and nothing else. -/
theorem validatePhase_frame (s : State) :
    validatePhase s = { s with
      payloadValid := (validatePhase s).payloadValid, plen := (validatePhase s).plen,
      meas := (validatePhase s).meas, status := (validatePhase s).status, phase := .idle } := by
  cases hv : validateFrame s.cfg (frameInBuffer s) with
  | rejected e => rw [validatePhase_rejected s hv]
  | accepted plen =>
    rw [validatePhase_accepted s hv, decodePhase_spec]
    rfl

theorem decodePhase_short {s : State} (hp : s.plen.toNat < 2) :
    decodePhase s = { s with status := statusOfError .malformed, phase := .idle } := by
  rw [decodePhase_spec, if_pos hp, if_pos hp]

theorem decodePhase_measured {s : State} (hp : 2 ≤ s.plen.toNat) :
    decodePhase s = { s with
      meas := some (measurementOf s.cfg (payloadHigh s) (payloadLow s)), status := statusOk, phase := .idle } := by
  rw [decodePhase_spec, if_neg (Nat.not_lt.mpr hp), if_neg (Nat.not_lt.mpr hp)]

/-- DECODE neither accepts a payload nor drops one. -/
theorem decodePhase_payload (s : State) :
    (decodePhase s).payloadValid = s.payloadValid ∧ (decodePhase s).plen = s.plen := by
  rw [decodePhase_spec]
  exact ⟨rfl, rfl⟩

/-- PLEN can hold the payload length of an accepted frame of up to 11 bytes. -/
theorem accepted_plen_toNat {cfg : Config} {f : List Byte} {plen : Nat} (h : validateFrame cfg f = .accepted plen)
    (hl : f.length ≤ 11) : (BitVec.ofNat 3 plen).toNat = plen := by
  have hlen := accepted_length h
  rw [BitVec.toNat_ofNat]
  omega

/-- A frame unit reads the bytes that were loaded. -/
theorem unitRead_loadBytes {d : List Byte} {s : State} {a : Nat} {b : Byte} (hb : d[a]? = some b) :
    Memory.unitRead (loadBytes d s).rxbuf a = b := by
  obtain ⟨ha, -⟩ := List.getElem?_eq_some_iff.mp hb
  exact Memory.unitRead_of_read (((loadBytes_loads d s).read_below ha).trans hb)

/-- Settles O41: RXBUF by `exchange_loads`, then one equation for each verdict on the bytes, and the rest of the state
by `validatePhase_frame`. -/
theorem readmeasData : Obligations.ReadmeasData := by
  intro s d hsized h8 hw hr hd
  obtain ⟨-, h4, hsize, -, h17⟩ := (Config.sized_iff _).mp hsized
  have hl : d.length ≤ 11 := (readAnswerFrom_length hr).trans hsize
  have hloads := exchange_loads hw hr hd
  have ⟨_, hrxcount⟩ := hloads
  have hcount : (exchange s).rxcount.toNat = d.length := by
    rw [hrxcount, rxcount_toNat (by omega)]
  refine ⟨exchange s, exec_readmeas s, exchange_readBytes s, fun _ => exchange_read_outside s,
    fun _ => hloads.read_below, fun a ha => hloads.read_above (by omega) (hcount.trans_le ha), hcount,
    fun e hv => ?_, fun plen hv => ?_, ?_⟩
  · rw [exchange_rejected hw hr hd (by omega) hv, readAsked_spec]
    exact ⟨rfl, rfl, rfl, rfl⟩
  · have hx := exchange_accepted hw hr hd (by omega) hv
    have hplen := accepted_plen_toNat hv hl
    obtain ⟨hvalid, hreg⟩ := decodePhase_payload (acceptPayload plen (loadBytes d (readAsked s)))
    refine ⟨hx ▸ hvalid, ?_, fun hshort => ?_, fun hi lo htwo hhi hlo => ?_⟩
    · rw [hx, hreg]
      exact hplen
    · rw [hx, decodePhase_short (hplen.trans_lt hshort)]
      exact ⟨rfl, rfl⟩
    · have hhigh : payloadHigh (acceptPayload plen (loadBytes d (readAsked s))) = hi := unitRead_loadBytes hhi
      have hlow : payloadLow (acceptPayload plen (loadBytes d (readAsked s))) = lo := unitRead_loadBytes hlo
      rw [hx, decodePhase_measured (htwo.trans_eq hplen.symm), hhigh, hlow, acceptPayload_cfg, loadBytes_cfg,
        readAsked_cfg, measurementOf_eight h8 h17]
      exact ⟨rfl, rfl⟩
  · rw [exchange_data hw hr hd, validatePhase_frame, loadBytes_spec, readAsked_spec, h4]
    rfl

/-! The four requests (R195). -/

theorem exec_validate (s : State) : exec .validate s = .next (validateBytes (frameInBuffer s) s) := rfl

/-- PACK ReadMeasure and RXLOAD of `d`: the frame is in TXFRAME and the bytes are in RXBUF, by the host's hand. -/
def hostExchanged (d : List Byte) (s : State) : State :=
  loadReceived d (packCommand .readMeasure s)

theorem execAll_fourRequests {d : List Byte} {s : State} (hl : d.length ≤ s.cfg.rxbufSize) (h15 : d.length ≤ 15) :
    execAll [.pack .readMeasure, .rxload d, .validate, .decode] s =
      execAll [.decode] (validateBytes d (hostExchanged d s)) := by
  have hload : exec (.rxload d) (packCommand .readMeasure s) = .next (hostExchanged d s) := exec_rxload_of_le hl
  have hvalidate : exec .validate (hostExchanged d s) = .next (validateBytes d (hostExchanged d s)) := by
    rw [exec_validate, hostExchanged, frameInBuffer_loadReceived _ h15]
  rw [execAll_cons (exec_pack _ s), execAll_cons hload, execAll_cons hvalidate]

/-- On an accepted payload the DECODE phase ends as the request DECODE, with the phase IDLE: the request clears MEAS
first, which the exchange did at its start. -/
theorem decodePhase_eq_decodeChecked {s : State} (hv : s.payloadValid = true) (hm : s.meas = none) :
    decodePhase s = (decodeChecked (payloadHigh s) (payloadLow s) s).setPhase .idle := by
  rw [decodePhase_spec, decodeChecked_spec, hv, hm]
  rfl

/-- The DECODE phase of READMEAS and the request DECODE after the other three, on the same accepted bytes. -/
theorem decodePhase_readAsked {d : List Byte} {s : State} {plen : Nat} (hp : s.phase = .idle)
    (hv : validateFrame s.cfg d = .accepted plen) :
    decodePhase (acceptPayload plen (loadBytes d (readAsked s))) =
      { decodeChecked (payloadHigh (validateBytes d (hostExchanged d s)))
          (payloadLow (validateBytes d (hostExchanged d s))) (validateBytes d (hostExchanged d s)) with
        writeAnswers := s.writeAnswers.tail, readAnswers := s.readAnswers.tail,
        asked := s.asked ++ [.write (commandFrame s.cfg .readMeasure), .read] } := by
  have hv' : validateFrame (hostExchanged d s).cfg d = .accepted plen := hv
  rw [decodePhase_eq_decodeChecked rfl (by rw [readAsked_spec]; rfl), validateBytes_accepted hv',
    decodeChecked_spec, decodeChecked_spec, readAsked_spec, ← hp]
  rfl

/-- Settles O42: the accepted bytes by `decodePhase_readAsked`; rejected ones leave no payload for DECODE. -/
theorem readmeasIsTheFourRequests : Obligations.ReadmeasIsTheFourRequests := by
  intro s d hsize hp hw hr hd
  have hl := readAnswerFrom_length hr
  have h15 : d.length ≤ 15 := hl.trans hsize
  refine ⟨exchange s, _, exec_readmeas s, (execAll_fourRequests hl h15).trans (execAll_cons (exec_decode _) []),
    fun plen hv => ?_, fun e hv => ?_⟩
  · rw [exchange_accepted hw hr hd h15 hv]
    exact decodePhase_readAsked hp hv
  · have hv' : validateFrame (hostExchanged d s).cfg d = .rejected e := hv
    rw [exchange_rejected hw hr hd h15 hv, validateBytes_rejected hv', decodeChecked_spec]
    exact ⟨rfl, rfl⟩

/-! The results of a session (R201). -/

/-- `t` reads as one of the four results of R201, and only OK comes with a measurement. -/
def EndsSession (t : State) : Prop :=
  (∃ m, t.status = 0x00 ∧ t.meas = some m ∧ sessionResult t = some (.ppm m)) ∨
  (statusCodeField t.status = 3 ∧ t.meas = none ∧ sessionResult t = some .transportError) ∨
  (t.status = 0x01 ∧ t.meas = none ∧ sessionResult t = some .protocolError) ∨
  (t.status = 0x02 ∧ t.meas = none ∧ sessionResult t = some .malformed)

section

variable {t : State}

theorem EndsSession.ofOk {m : Int} (hs : t.status = statusOk) (hm : t.meas = some m) : EndsSession t :=
  .inl ⟨m, hs, hm, by simp [sessionResult, hs, hm]⟩

theorem EndsSession.ofTransportError {cause : TransportCause}
    (hs : t.status = statusOfError (.transportError cause)) (hm : t.meas = none) : EndsSession t := by
  have hcode : statusCodeField t.status = 3 := by
    rw [hs, statusOfError, statusCodeField_statusByte]
    rfl
  exact .inr (.inl ⟨hcode, hm, by simp [sessionResult, hcode]⟩)

theorem EndsSession.ofMismatch (hs : t.status = statusOfError .checksumMismatch) (hm : t.meas = none) :
    EndsSession t := by
  refine .inr (.inr (.inl ⟨hs, hm, ?_⟩))
  rw [sessionResult, hs]
  rfl

theorem EndsSession.ofMalformed (hs : t.status = statusOfError .malformed) (hm : t.meas = none) :
    EndsSession t := by
  refine .inr (.inr (.inr ⟨hs, hm, ?_⟩))
  rw [sessionResult, hs]
  rfl

/-- Each end of an exchange that began without a measurement is a result of the session. -/
theorem ExchangeEnds.endsSession {q : State} (h : ExchangeEnds q t) (hm : q.meas = none) : EndsSession t := by
  cases h with
  | failed cause => exact .ofTransportError rfl hm
  | rejected _ hv =>
    rcases validateFrame_rejected hv with rfl | rfl
    · exact .ofMalformed rfl hm
    · exact .ofMismatch rfl hm
  | @accepted d plen =>
    rcases Nat.lt_or_ge (acceptPayload plen (loadBytes d q)).plen.toNat 2 with hshort | htwo
    · rw [decodePhase_short hshort]
      exact .ofMalformed rfl hm
    · rw [decodePhase_measured htwo]
      exact .ofOk rfl rfl

end

/-- Settles O43: the exchange clears MEAS before it asks anything, and each of its ends is a result. -/
theorem readmeasEndsInASessionResult : Obligations.ReadmeasEndsInASessionResult := by
  intro s
  obtain ⟨-, -, -, hphase⟩ := exchange_writesOnly s
  obtain ⟨q, ⟨_, _, _, _, rfl⟩, hends⟩ := exchange_ends s
  exact ⟨exchange s, exec_readmeas s, hphase, hends.endsSession rfl⟩

/-! What the transport is asked (R198). -/

theorem readPhase_asked (s : State) : (readPhase s).asked = s.asked ++ [.read] := by
  cases ha : readAnswer s with
  | timeout =>
    rw [readPhase_timeout s ha]
    rfl
  | data d =>
    by_cases hd : d = []
    · subst hd
      rw [readPhase_noResponse s ha]
      rfl
    · rw [readPhase_data s ha hd, validatePhase_frame]
      rfl

theorem exchange_asked (s : State) :
    (exchange s).asked = s.asked ++ (.write (commandFrame s.cfg .readMeasure) ::
      if writeAnswerFrom s.writeAnswers s.asked.length = .ok then [.read] else []) := by
  cases hw : writeAnswerFrom s.writeAnswers s.asked.length with
  | fail =>
    rw [exchange_writeFailed hw, transportFailure_spec, writeAsked_spec]
    rfl
  | ok =>
    rw [exchange_written hw, readPhase_asked, writeAsked_spec, List.append_assoc]
    rfl

/-- Settles O44: the registers that the other instructions write leave the record of questions out. -/
theorem transportIsAskedOnceInOrder : Obligations.TransportIsAskedOnceInOrder := by
  intro i s t h
  refine ⟨fun hi => ?_, ?_⟩
  · have hw := exec_writesOnly h
    cases i with
    | readmeas => exact absurd rfl hi
    | csum | verify | pack | rxload | validate | decode | cmdframeReadMeasure | cmdframeCalibration
    | cmdframeAbcParameterCheck | cmdframeAbcParameterSet => rw [hw]
  · rintro rfl
    cases h
    exact exchange_asked s

end Sys2Proof.Machine
end

section
/-! PROOFS, 60_exceptions.md: what the block does between requests. -/

namespace Sys2Proof.Machine

/-- Settles O8: with no move of the host, a step takes the branch that holds the state. -/
theorem stepHoldsTheStateWhenIdle : Obligations.StepHoldsTheStateWhenIdle := fun _ => step_noInput

end Sys2Proof.Machine
end

section
/-! PROOFS, 70_reset_and_hazards.md: the stale bytes of RXBUF, a request while READMEAS is pending, and reset. -/

namespace Sys2Proof.Machine

/-! What is the same in two states that differ in stale bytes only (R263). -/

theorem sameButStale_setRxbuf {s : State} {m : Memory}
    (h : ∀ a, a < s.rxcount.toNat → Memory.read m a = Memory.read s.rxbuf a) : SameButStale s (s.setRxbuf m) :=
  ⟨rfl, h⟩

/-- The second state is the first over another buffer. -/
theorem SameButStale.exists_buffer {s t : State} (h : SameButStale s t) :
    ∃ m, t = s.setRxbuf m ∧ ∀ a, a < s.rxcount.toNat → Memory.read m a = Memory.read s.rxbuf a :=
  ⟨t.rxbuf, h⟩

theorem SameButStale.cfg {s t : State} (h : SameButStale s t) : t.cfg = s.cfg := by
  obtain ⟨m, rfl, -⟩ := h.exists_buffer
  rfl

/-- PAYLOAD_VALID and PLEN. -/
theorem SameButStale.payloadRegisters {s t : State} (h : SameButStale s t) :
    t.payloadValid = s.payloadValid ∧ t.plen = s.plen := by
  obtain ⟨m, rfl, -⟩ := h.exists_buffer
  exact ⟨rfl, rfl⟩

theorem SameButStale.frameInBuffer {s t : State} (h : SameButStale s t) : frameInBuffer t = frameInBuffer s := by
  obtain ⟨m, rfl, hm⟩ := h.exists_buffer
  exact Memory.unitReadBytes_congr hm

theorem SameButStale.payload {s t : State} (h : SameButStale s t) (hlow : s.cfg.payloadOffset + 1 < s.rxcount.toNat) :
    payloadHigh t = payloadHigh s ∧ payloadLow t = payloadLow s := by
  obtain ⟨m, rfl, hm⟩ := h.exists_buffer
  exact ⟨Memory.unitRead_congr (hm _ (Nat.lt_of_succ_lt hlow)), Memory.unitRead_congr (hm _ hlow)⟩

/-! What keeps two states so: a function that has no use for the receive buffer, a load, and a failed exchange. -/

/-- `f` neither reads nor writes RXBUF, and it leaves RXCOUNT alone. -/
def IgnoresReceiveBuffer (f : State → State) : Prop :=
  ∀ s m, f (s.setRxbuf m) = (f s).setRxbuf m ∧ (f s).rxcount = s.rxcount

/-- Such a function leaves RXBUF alone, because a state is itself over its own buffer. -/
theorem IgnoresReceiveBuffer.rxbuf {f : State → State} (hf : IgnoresReceiveBuffer f) (s : State) :
    (f s).rxbuf = s.rxbuf := by
  have hset : f s = (f s).setRxbuf s.rxbuf := (hf s s.rxbuf).1
  rw [hset, State.setRxbuf_rxbuf]

theorem SameButStale.map {f : State → State} (hf : IgnoresReceiveBuffer f) {s t : State} (h : SameButStale s t) :
    SameButStale (f s) (f t) := by
  obtain ⟨m, rfl, hm⟩ := h.exists_buffer
  obtain ⟨hset, hcount⟩ := hf s m
  rw [hset]
  refine sameButStale_setRxbuf fun a ha => ?_
  rw [hf.rxbuf]
  exact hm a (hcount ▸ ha)

/-- The bytes that are loaded are all that RXCOUNT then counts, so what stood in RXBUF before is stale. -/
theorem SameButStale.loadBytes {s t : State} (h : SameButStale s t) (d : List Byte) :
    SameButStale (loadBytes d s) (loadBytes d t) := by
  obtain ⟨m, rfl, -⟩ := h.exists_buffer
  refine ⟨rfl, fun a ha => ?_⟩
  have hd : a < d.length := by
    rw [loadBytes_spec, BitVec.toNat_ofNat] at ha
    omega
  rw [(loadBytes_loads d _).read_below hd, (loadBytes_loads d _).read_below hd]

/-- After a transport failure every byte is stale. -/
theorem SameButStale.transportFailure {s t : State} (h : SameButStale s t) (cause : TransportCause) :
    SameButStale (transportFailure cause s) (transportFailure cause t) := by
  obtain ⟨m, rfl, -⟩ := h.exists_buffer
  exact ⟨rfl, fun _ ha => absurd ha (Nat.not_lt_zero _)⟩

/-! The units, on bytes that are given to them. -/

theorem verifyBytes_ignores (f : List Byte) : IgnoresReceiveBuffer (verifyBytes f) := fun s m => by
  rw [verifyBytes_spec, verifyBytes_spec]
  exact ⟨rfl, rfl⟩

theorem validateBytes_ignores (f : List Byte) : IgnoresReceiveBuffer (validateBytes f) := fun s m => by
  cases hv : validateFrame s.cfg f with
  | accepted plen =>
    rw [validateBytes_accepted hv, validateBytes_accepted (s := s.setRxbuf m) hv]
    exact ⟨rfl, rfl⟩
  | rejected e =>
    rw [validateBytes_rejected hv, validateBytes_rejected (s := s.setRxbuf m) hv]
    exact ⟨rfl, rfl⟩

theorem decodeChecked_ignores (hi lo : Byte) : IgnoresReceiveBuffer (decodeChecked hi lo) := fun s m =>
  ⟨decodeChecked_setRxbuf hi lo s m, by rw [decodeChecked_spec]⟩

theorem packCommand_ignores (cmd : Command) : IgnoresReceiveBuffer (packCommand cmd) := fun _ _ => ⟨rfl, rfl⟩

theorem SameButStale.loadReceived {s t : State} (h : SameButStale s t) (d : List Byte) :
    SameButStale (loadReceived d s) (loadReceived d t) :=
  (h.loadBytes d).map (f := fun u => complete (clearPayload u)) fun _ _ => ⟨rfl, rfl⟩

/-! READMEAS. What its VALIDATE and DECODE phases read is the frame, never a byte above it. -/

theorem writeAsked_ignores : IgnoresReceiveBuffer writeAsked := fun _ _ => by
  rw [writeAsked_spec, writeAsked_spec]
  exact ⟨rfl, rfl⟩

theorem readAsked_ignores : IgnoresReceiveBuffer readAsked := fun _ _ => by
  rw [readAsked_spec, readAsked_spec]
  exact ⟨rfl, rfl⟩

theorem SameButStale.decodePhase {s t : State} (h : SameButStale s t)
    (hlow : 2 ≤ s.plen.toNat → s.cfg.payloadOffset + 1 < s.rxcount.toNat) :
    SameButStale (decodePhase s) (decodePhase t) := by
  obtain ⟨-, hplen⟩ := h.payloadRegisters
  by_cases hp : s.plen.toNat < 2
  · rw [decodePhase_short hp, decodePhase_short (hplen ▸ hp)]
    exact h.map (f := fun u => endExchange (raise .malformed u)) fun _ _ => ⟨rfl, rfl⟩
  · have h2 : 2 ≤ s.plen.toNat := Nat.not_lt.mp hp
    have hmeas : measurementOf t.cfg (payloadHigh t) (payloadLow t) =
        measurementOf s.cfg (payloadHigh s) (payloadLow s) := by
      obtain ⟨hhi, hlo⟩ := h.payload (hlow h2)
      rw [h.cfg, hhi, hlo]
    rw [decodePhase_measured h2, decodePhase_measured (hplen ▸ h2), hmeas]
    generalize measurementOf s.cfg (payloadHigh s) (payloadLow s) = ppm
    exact h.map (f := fun u => endExchange (complete (u.setMeas (some ppm)))) fun _ _ => ⟨rfl, rfl⟩

/-- The two payload bytes of an accepted frame lie inside it (43_frame_decoder.md R173). -/
theorem accepted_payload_inside {cfg : Config} {f : List Byte} {plen : Nat} (ho : cfg.payloadOffset ≤ 3)
    (h : validateFrame cfg f = .accepted plen) (hp : 2 ≤ plen) : cfg.payloadOffset + 1 < f.length := by
  have hlen := accepted_length h
  omega

theorem SameButStale.validatePhase {s t : State} (h : SameButStale s t) (ho : s.cfg.payloadOffset ≤ 3) :
    SameButStale (validatePhase s) (validatePhase t) := by
  have hverdict : validateFrame t.cfg (Machine.frameInBuffer t) = validateFrame s.cfg (Machine.frameInBuffer s) := by
    rw [h.frameInBuffer, h.cfg]
  cases hv : validateFrame s.cfg (Machine.frameInBuffer s) with
  | rejected e =>
    rw [validatePhase_rejected s hv, validatePhase_rejected t (hverdict.trans hv)]
    exact h.map (f := fun u => endExchange (raise e u)) fun _ _ => ⟨rfl, rfl⟩
  | accepted plen =>
    rw [validatePhase_accepted s hv, validatePhase_accepted t (hverdict.trans hv)]
    have haccepted := h.map (f := fun u => acceptPayload plen (u.setPhase .validate)) fun _ _ => ⟨rfl, rfl⟩
    refine haccepted.decodePhase fun hp => ?_
    have hplen : 2 ≤ plen := by
      rw [acceptPayload_spec, BitVec.toNat_ofNat] at hp
      omega
    exact frameInBuffer_length s ▸ accepted_payload_inside ho hv hplen

/-- The transport is asked the same in both states, and each of its answers ends the exchange alike in both. -/
theorem SameButStale.exchange {s t : State} (h : SameButStale s t) (ho : s.cfg.payloadOffset ≤ 3) :
    SameButStale (exchange s) (exchange t) := by
  have hwritten := h.map writeAsked_ignores
  have hread := h.map readAsked_ignores
  obtain ⟨m, rfl, -⟩ := h.exists_buffer
  cases hw : writeAnswerFrom s.writeAnswers s.asked.length with
  | fail =>
    rw [exchange_writeFailed hw, exchange_writeFailed (s := s.setRxbuf m) hw]
    exact hwritten.transportFailure .writeFailed
  | ok =>
    cases hr : readAnswerFrom s.cfg.rxbufSize s.readAnswers (s.asked.length + 1) with
    | timeout =>
      rw [exchange_timeout hw hr, exchange_timeout (s := s.setRxbuf m) hw hr]
      exact hread.transportFailure .timeout
    | data d =>
      by_cases hd : d = []
      · subst hd
        rw [exchange_noResponse hw hr, exchange_noResponse (s := s.setRxbuf m) hw hr]
        exact hread.transportFailure .noResponse
      · rw [exchange_data hw hr hd, exchange_data (s := s.setRxbuf m) hw hr hd]
        refine (hread.loadBytes d).validatePhase ?_
        rwa [loadBytes_cfg, readAsked_cfg]

/-- DECODE looks at its two bytes only where the invariant puts them below RXCOUNT. -/
theorem SameButStale.decodeChecked {s t : State} (h : SameButStale s t) (hinv : s.Inv) :
    SameButStale (decodeChecked (payloadHigh s) (payloadLow s) s)
      (decodeChecked (payloadHigh t) (payloadLow t) t) := by
  have hsame : Machine.decodeChecked (payloadHigh t) (payloadLow t) t =
      Machine.decodeChecked (payloadHigh s) (payloadLow s) t := by
    obtain ⟨hvalid, hplen⟩ := h.payloadRegisters
    exact decodeChecked_congr fun hv hp =>
      h.payload (hinv.payload_below_rxcount (hvalid.symm.trans hv) (hplen ▸ hp))
  rw [hsame]
  exact h.map (decodeChecked_ignores _ _)

/-- Settles O54: each unit is given the same bytes in both states, and has no other use for the receive buffer. -/
theorem staleBytesDoNotMatter : Obligations.StaleBytesDoNotMatter := by
  intro i s s' hwf hinv _ h
  cases i with
  | csum data =>
    refine ⟨_, _, rfl, rfl, ?_⟩
    rw [h.cfg]
    exact h.map (f := fun u => complete (u.setCsumOut (some (checksum s.cfg data)))) fun _ _ => ⟨rfl, rfl⟩
  | verify =>
    refine ⟨_, _, exec_verify s, exec_verify s', ?_⟩
    rw [h.frameInBuffer]
    exact h.map (verifyBytes_ignores _)
  | rxload d =>
    obtain ⟨-, hl⟩ := wellFormed_rxload.mp hwf
    exact ⟨_, _, exec_rxload_of_le hl, exec_rxload_of_le (h.cfg ▸ hl), h.loadReceived d⟩
  | validate =>
    refine ⟨_, _, exec_validate s, exec_validate s', ?_⟩
    rw [h.frameInBuffer]
    exact h.map (validateBytes_ignores _)
  | decode => exact ⟨_, _, exec_decode s, exec_decode s', h.decodeChecked hinv⟩
  | readmeas =>
    obtain ⟨-, -, -, hoff, -⟩ := (Config.sized_iff _).mp hinv.cfg_sized
    exact ⟨_, _, exec_readmeas s, exec_readmeas s', h.exchange hoff⟩
  | pack | cmdframeReadMeasure | cmdframeCalibration | cmdframeAbcParameterCheck | cmdframeAbcParameterSet =>
    exact ⟨_, _, rfl, rfl, h.map (packCommand_ignores _)⟩

/-! The host's moves while READMEAS is pending (R265). -/

theorem step_pending {s : State} {move : Input} {rest : List Input} (hi : s.inputs = move :: rest)
    (hmove : move ≠ .reset) (hp : s.phase ≠ .idle) : step s = .refused .requestWhilePending := by
  unfold step
  rw [hi]
  cases move with
  | reset => exact absurd rfl hmove
  | issue | readReg => exact if_neg (mt (readyForHost_iff s).mp hp)

/-- Settles O9: every move but a reset needs the phase IDLE. -/
theorem requestWhilePendingHasNoStep : Obligations.RequestWhilePendingHasNoStep := by
  rintro s rest hp (⟨fmt, bytes, hi⟩ | ⟨reg, hi⟩)
  · exact step_pending hi nofun hp
  · exact step_pending hi nofun hp

/-! Reset (R260, R261). -/

theorem resetBlock_reset : resetBlock State.reset = State.reset := rfl

/-- Settles O12: the reset state is a reset of itself, so one reading of `resetBlock` serves both. -/
theorem resetHoldsTheSpecValues : Obligations.ResetHoldsTheSpecValues := by
  intro t ht
  obtain ⟨s, rfl⟩ : ∃ s, t = resetBlock s := ht.elim (fun h => ⟨_, h.trans resetBlock_reset.symm⟩) id
  exact ⟨statusCodeField_statusByte .idle 0, statusCauseField_statusByte .idle 0,
    statusReservedField_statusByte .idle 0, Memory.read_nil, rfl, Memory.read_nil, rfl, rfl, rfl, rfl, rfl, rfl⟩

/-- Settles O13: a step on a reset move looks at no phase, and what it leaves is a `resetBlock`. -/
theorem resetIsTakenInAnyPhase : Obligations.ResetIsTakenInAnyPhase := by
  intro s rest hi
  have hvalues := resetHoldsTheSpecValues (resetBlock (s.setInputs rest)) (.inr ⟨_, rfl⟩)
  refine ⟨step_reset hi, _, step_reset hi, ?_⟩
  simpa only [and_assoc] using And.intro hvalues ⟨rfl, rfl, rfl, rfl, rfl⟩

/-- After reset no byte is counted, so there is no frame for a unit to read. -/
theorem frameInBuffer_reset : frameInBuffer State.reset = [] := rfl

/-- The first check of R105, which no parameter decides. -/
theorem exec_verify_empty {s : State} (h : frameInBuffer s = []) :
    exec .verify s = .next { s with status := statusOfError .malformed } := by
  rw [exec_verify, h, verifyBytes_spec]
  rfl

/-- Settles O14: VERIFY and VALIDATE find no frame, and DECODE no payload. -/
theorem firstRequestsAfterReset : Obligations.FirstRequestsAfterReset :=
  ⟨exec_verify_empty frameInBuffer_reset, exec_validate_empty (congrArg List.length frameInBuffer_reset),
    exec_decode_unchecked rfl⟩

end Sys2Proof.Machine
end
